-- ==== Sys2Proof/Word.lean ====
section
/-! DEFINITION. The two value widths of the block: a byte is 8 bits, a word (an address or a 16-bit operand) is
16 bits (00_scope.md R10). -/

namespace Sys2Proof

/-- A byte, 8 bits. -/
abbrev Byte := BitVec 8

/-- A word, 16 bits: an address or a two-byte operand. -/
abbrev Word := BitVec 16

end Sys2Proof
end

