-- ==== Sys2Proof/Machine/Bits.lean ====
section
/-! DEFINITION. The bit-field, extension and byte-order primitives of 00_scope.md R10 and R11. -/

namespace Sys2Proof

/-- `zext_16(v)`: widens a byte with zeros (00_scope.md R11). -/
def zext16 (v : Byte) : Word := v.setWidth 16

/-- `sext_16(v)`: widens a byte by copying bit 7 (00_scope.md R11). -/
def sext16 (v : Byte) : Word := v.signExtend 16

/-- `signed8(v)`: `v - 256` when bit 7 is 1, and `v` otherwise (00_scope.md R11). -/
def signed8 (v : Byte) : Int :=
  if v.getLsbD 7 then (v.toNat : Int) - 256 else (v.toNat : Int)

/-- `v[15:8]`. -/
def hiByte (v : Word) : Byte := v.extractLsb' 8 8

/-- `v[7:0]`. -/
def loByte (v : Word) : Byte := v.extractLsb' 0 8

/-- The concatenation with `b1` in the more significant position: big-endian assembly of two bytes (20_memory.md
R63). -/
def wordOf (b1 b2 : Byte) : Word := b1 ++ b2

end Sys2Proof
end

