-- ==== Sys2Proof/Config.lean ====
section
/-! DEFINITION. The parameters of 00_scope.md R8, each at the default the spec gives, or as an opaque constant where
the spec leaves it OPEN, and the free values of output pins that the spec does not define.  The parameter
`ROM_TABLE` and its default stand in Machine/Rom.lean. -/

namespace Sys2Proof

/-- The six status flags that the metadata names, in the source's order (10_state.md R37). -/
inductive Flag where
  /-- Half-carry. -/
  | h
  /-- Interrupt-mask. -/
  | i
  /-- Negative. -/
  | n
  /-- Zero. -/
  | z
  /-- Overflow. -/
  | v
  /-- Carry. -/
  | c
  deriving DecidableEq, Repr

/-- A named flag-update grouping: a name and, for each flag, whether the grouping touches it (10_state.md R37). -/
structure FlagGroup where
  name : String
  h : Bool
  i : Bool
  n : Bool
  z : Bool
  v : Bool
  c : Bool
  deriving DecidableEq, Repr, Inhabited

namespace Config

/-- `QUIRK_EXTRA`, default empty (00_scope.md R8, 92_eei_decisions.md D4). -/
def quirkExtra : List Byte := []

/-- `UNDEF_MNEMONIC`, default `"???"` (00_scope.md R8, 92_eei_decisions.md D5). -/
def undefMnemonic : String := "???"

/-- How far `MNEM_WIDTH` lies above its least value; OPEN in the spec, so a free value (log entry 4). -/
opaque mnemWidthSlack : Nat

/-- `MNEM_WIDTH`: an open parameter, at least 4 (92_eei_decisions.md D12). -/
def mnemWidth : Nat := 4 + mnemWidthSlack

/-- `FLAG_GROUPS`: the eight named flag-update groupings, names and subsets OPEN (92_eei_decisions.md D16; log
entry 5). -/
opaque flagGroup (k : Fin 8) : FlagGroup

/-- What the `kind` pins of an edge port carry while its `valid` pin is 0: the spec does not define it, so it is a
free value of the bytes that the decode reads (10_state.md R31, R32; 20_memory.md R65), and not of `addr`
(30_encoding.md R89; log entry 7). -/
opaque idleKind (port : Fin 2) (bytes : List Byte) : BitVec 2

/-- What the `target` pins of an edge port carry while its `valid` pin is 0: a free value of `addr` and of the bytes
that the decode reads (10_state.md R31, R32; 20_memory.md R65; log entry 7). -/
opaque idleTarget (port : Fin 2) (addr : Word) (bytes : List Byte) : Word

end Config

end Sys2Proof
end

