-- ==== Sys2Proof/Syntax.lean ====
section
/-! DEFINITION. The operand shapes, the closed mnemonic set and the instructions: one constructor of `Instr`
per row of spec/opcode_table.json (30_encoding.md R81, R91, R96; rows of files 40 to 43). -/

namespace Sys2Proof

/-- The closed catalog of eight operand shapes, in the order of their codes 0 to 7 (30_encoding.md R81). -/
inductive Shape where
  /-- `None`: no operand bytes. -/
  | none
  /-- `ByteImmediate`: an 8-bit literal. -/
  | byteImmediate
  /-- `WordImmediate`: a 16-bit literal, big-endian. -/
  | wordImmediate
  /-- `ByteAddress`: a relative displacement, a direct-page address, or the byte of a quirk row (R83, R94). -/
  | byteAddress
  /-- `WordAddress`: a 16-bit absolute address. -/
  | wordAddress
  /-- `Indexed`: an unsigned 8-bit offset from an index register. -/
  | indexed
  /-- `DirectMemory`: an immediate byte, then a direct-page address. -/
  | directMemory
  /-- `ImmediateIndexed`: an immediate byte, then an indexed offset. -/
  | immediateIndexed
  deriving DecidableEq, Repr

/-- The closed mnemonic set, in the order of the index column of 30_encoding.md R96 (index 0 is `nop`,
index 123 is `stx`).  The sentinel of an undefined opcode is not a member: it is `MnemSymbol.sentinel`. -/
inductive Mnemonic where
  | nop | lsrd | asld | tap | tpa | inx | dex | clv | sev | clc | sec | cli
  | sei | sba | cba | tab | tba | xgdx | daa | slp | aba | bra | brn | bhi
  | bls | bcc | bcs | bne | beq | bvc | bvs | bpl | bmi | bge | blt | bgt
  | ble | tsx | ins | pula | pulb | des | txs | psha | pshb | pulx | rts | abx
  | rti | pshx | mul | wai | swi | nega | coma | lsra | rora | asra | asla | rola
  | deca | inca | tsta | clra | negb | comb | lsrb | rorb | asrb | aslb | rolb | decb
  | incb | tstb | clrb | neg | aim | oim | com | lsr | eim | ror | asr | asl
  | rol | dec | tim | inc | tst | jmp | clr | suba | cmpa | sbca | subd | anda
  | bita | ldaa | eora | adca | oraa | adda | cpx | bsr | lds | staa | jsr | sts
  | subb | cmpb | sbcb | addd | andb | bitb | ldab | eorb | adcb | orab | addb | ldd
  | ldx | stab | std | stx
  deriving DecidableEq, Repr

/-- An instruction, as its opcode row and its operand bytes.  A row whose shape is `None` and whose opcode lies
in the domain of `QUIRK_EXTRA` (30_encoding.md R94) carries `q : Option Byte`: `none` is the row's own form, of one
byte, and `some b` is the form the row takes where `QUIRK_EXTRA` holds its opcode (shape `ByteAddress`, operand
byte `b`).  `Instr.wfWith` says which of the two a configuration admits. -/
inductive Instr where
  | nop
  | lsrd (q : Option Byte)
  | asld (q : Option Byte)
  | tap (q : Option Byte)
  | tpa (q : Option Byte)
  | inx (q : Option Byte)
  | dex (q : Option Byte)
  | clv (q : Option Byte)
  | sev (q : Option Byte)
  | clc (q : Option Byte)
  | sec (q : Option Byte)
  | cli (q : Option Byte)
  | sei (q : Option Byte)
  | sba (q : Option Byte)
  | cba (q : Option Byte)
  | tab (q : Option Byte)
  | tba (q : Option Byte)
  | xgdx (q : Option Byte)
  | daa (q : Option Byte)
  | slp (q : Option Byte)
  | aba (q : Option Byte)
  | bra (rel8 : Byte)
  | brn (rel8 : Byte)
  | bhi (rel8 : Byte)
  | bls (rel8 : Byte)
  | bcc (rel8 : Byte)
  | bcs (rel8 : Byte)
  | bne (rel8 : Byte)
  | beq (rel8 : Byte)
  | bvc (rel8 : Byte)
  | bvs (rel8 : Byte)
  | bpl (rel8 : Byte)
  | bmi (rel8 : Byte)
  | bge (rel8 : Byte)
  | blt (rel8 : Byte)
  | bgt (rel8 : Byte)
  | ble (rel8 : Byte)
  | tsx (b : Byte)
  | ins (q : Option Byte)
  | pula (b : Byte)
  | pulb (q : Option Byte)
  | des (q : Option Byte)
  | txs (q : Option Byte)
  | psha (q : Option Byte)
  | pshb (q : Option Byte)
  | pulx (q : Option Byte)
  | rts (b : Byte)
  | abx (q : Option Byte)
  | rti (q : Option Byte)
  | pshx (q : Option Byte)
  | mul (q : Option Byte)
  | wai (q : Option Byte)
  | swi (q : Option Byte)
  | nega
  | coma
  | lsra
  | rora
  | asra
  | asla
  | rola
  | deca
  | inca
  | tsta
  | clra
  | negb
  | comb
  | lsrb
  | rorb
  | asrb
  | aslb
  | rolb
  | decb
  | incb
  | tstb
  | clrb
  | negInd (off8 : Byte)
  | aimImmInd (imm8 off8 : Byte)
  | oimImmInd (imm8 off8 : Byte)
  | comInd (off8 : Byte)
  | lsrInd (off8 : Byte)
  | eimImmInd (imm8 off8 : Byte)
  | rorInd (off8 : Byte)
  | asrInd (off8 : Byte)
  | aslInd (off8 : Byte)
  | rolInd (off8 : Byte)
  | decInd (off8 : Byte)
  | timImmInd (imm8 off8 : Byte)
  | incInd (off8 : Byte)
  | tstInd (off8 : Byte)
  | jmpInd (off8 : Byte)
  | clrInd (off8 : Byte)
  | negExt (ext16 : Word)
  | aimImmDir (imm8 dir8 : Byte)
  | oimImmDir (imm8 dir8 : Byte)
  | comExt (ext16 : Word)
  | lsrExt (ext16 : Word)
  | eimImmDir (imm8 dir8 : Byte)
  | rorExt (ext16 : Word)
  | asrExt (ext16 : Word)
  | aslExt (ext16 : Word)
  | rolExt (ext16 : Word)
  | decExt (ext16 : Word)
  | timImmDir (imm8 dir8 : Byte)
  | incExt (ext16 : Word)
  | tstExt (ext16 : Word)
  | jmpExt (ext16 : Word)
  | clrExt (ext16 : Word)
  | subaImm (imm8 : Byte)
  | cmpaImm (imm8 : Byte)
  | sbcaImm (imm8 : Byte)
  | subdImm (imm16 : Word)
  | andaImm (imm8 : Byte)
  | bitaImm (imm8 : Byte)
  | ldaaImm (imm8 : Byte)
  | eoraImm (imm8 : Byte)
  | adcaImm (imm8 : Byte)
  | oraaImm (imm8 : Byte)
  | addaImm (imm8 : Byte)
  | cpxImm (imm16 : Word)
  | bsr (rel8 : Byte)
  | ldsImm (imm16 : Word)
  | subaDir (dir8 : Byte)
  | cmpaDir (dir8 : Byte)
  | sbcaDir (dir8 : Byte)
  | subdDir (dir8 : Byte)
  | andaDir (dir8 : Byte)
  | bitaDir (dir8 : Byte)
  | ldaaDir (dir8 : Byte)
  | staaDir (dir8 : Byte)
  | eoraDir (dir8 : Byte)
  | adcaDir (dir8 : Byte)
  | oraaDir (dir8 : Byte)
  | addaDir (dir8 : Byte)
  | cpxDir (dir8 : Byte)
  | jsrDir (dir8 : Byte)
  | ldsDir (dir8 : Byte)
  | stsDir (dir8 : Byte)
  | subaInd (off8 : Byte)
  | cmpaInd (off8 : Byte)
  | sbcaInd (off8 : Byte)
  | subdInd (off8 : Byte)
  | andaInd (off8 : Byte)
  | bitaInd (off8 : Byte)
  | ldaaInd (off8 : Byte)
  | staaInd (off8 : Byte)
  | eoraInd (off8 : Byte)
  | adcaInd (off8 : Byte)
  | oraaInd (off8 : Byte)
  | addaInd (off8 : Byte)
  | cpxInd (off8 : Byte)
  | jsrInd (off8 : Byte)
  | ldsInd (off8 : Byte)
  | stsInd (off8 : Byte)
  | subaExt (ext16 : Word)
  | cmpaExt (ext16 : Word)
  | sbcaExt (ext16 : Word)
  | subdExt (ext16 : Word)
  | andaExt (ext16 : Word)
  | bitaExt (ext16 : Word)
  | ldaaExt (ext16 : Word)
  | staaExt (ext16 : Word)
  | eoraExt (ext16 : Word)
  | adcaExt (ext16 : Word)
  | oraaExt (ext16 : Word)
  | addaExt (ext16 : Word)
  | cpxExt (ext16 : Word)
  | jsrExt (ext16 : Word)
  | ldsExt (ext16 : Word)
  | stsExt (ext16 : Word)
  | subbImm (imm8 : Byte)
  | cmpbImm (imm8 : Byte)
  | sbcbImm (imm8 : Byte)
  | adddImm (imm16 : Word)
  | andbImm (imm8 : Byte)
  | bitbImm (imm8 : Byte)
  | ldabImm (imm8 : Byte)
  | eorbImm (imm8 : Byte)
  | adcbImm (imm8 : Byte)
  | orabImm (imm8 : Byte)
  | addbImm (imm8 : Byte)
  | lddImm (imm16 : Word)
  | ldxImm (imm16 : Word)
  | subbDir (dir8 : Byte)
  | cmpbDir (dir8 : Byte)
  | sbcbDir (dir8 : Byte)
  | adddDir (dir8 : Byte)
  | andbDir (dir8 : Byte)
  | bitbDir (dir8 : Byte)
  | ldabDir (dir8 : Byte)
  | stabDir (dir8 : Byte)
  | eorbDir (dir8 : Byte)
  | adcbDir (dir8 : Byte)
  | orabDir (dir8 : Byte)
  | addbDir (dir8 : Byte)
  | lddDir (dir8 : Byte)
  | stdDir (dir8 : Byte)
  | ldxDir (dir8 : Byte)
  | stxDir (dir8 : Byte)
  | subbInd (off8 : Byte)
  | cmpbInd (off8 : Byte)
  | sbcbInd (off8 : Byte)
  | adddInd (off8 : Byte)
  | andbInd (off8 : Byte)
  | bitbInd (off8 : Byte)
  | ldabInd (off8 : Byte)
  | stabInd (off8 : Byte)
  | eorbInd (off8 : Byte)
  | adcbInd (off8 : Byte)
  | orabInd (off8 : Byte)
  | addbInd (off8 : Byte)
  | lddInd (off8 : Byte)
  | stdInd (off8 : Byte)
  | ldxInd (off8 : Byte)
  | stxInd (off8 : Byte)
  | subbExt (ext16 : Word)
  | cmpbExt (ext16 : Word)
  | sbcbExt (ext16 : Word)
  | adddExt (ext16 : Word)
  | andbExt (ext16 : Word)
  | bitbExt (ext16 : Word)
  | ldabExt (ext16 : Word)
  | stabExt (ext16 : Word)
  | eorbExt (ext16 : Word)
  | adcbExt (ext16 : Word)
  | orabExt (ext16 : Word)
  | addbExt (ext16 : Word)
  | lddExt (ext16 : Word)
  | stdExt (ext16 : Word)
  | ldxExt (ext16 : Word)
  deriving DecidableEq, Repr

end Sys2Proof
end

