-- ==== Sys2Proof/WellFormed.lean ====
section
/-! DEFINITION. Well-formed configurations of `QUIRK_EXTRA` and well-formed instructions (30_encoding.md R94,
00_scope.md R8).  The checks of a whole `ROM_TABLE` (00_scope.md R9) stand with the table in Machine/Rom.lean. -/

namespace Sys2Proof

/-- The domain of the parameter `QUIRK_EXTRA`: the `None`-shape reference rows in 0x00 to 0x3F other than 0x01
(30_encoding.md R94, 92_eei_decisions.md D4). -/
def quirkDomain : List Byte :=
  [0x04, 0x05, 0x06, 0x07, 0x08, 0x09, 0x0A, 0x0B, 0x0C, 0x0D, 0x0E, 0x0F,
   0x10, 0x11, 0x16, 0x17, 0x18, 0x19, 0x1A, 0x1B, 0x31, 0x33, 0x34, 0x35,
   0x36, 0x37, 0x38, 0x3A, 0x3B, 0x3C, 0x3D, 0x3E, 0x3F]

/-- Every opcode of a `QUIRK_EXTRA` value lies in its domain. -/
def quirkExtraOk (quirk : List Byte) : Bool :=
  quirk.all fun op => quirkDomain.contains op

/-- The operand byte of a quirkable row is present exactly when the configuration gives the row the shape
`ByteAddress`. -/
def quirkFits (quirk : List Byte) (op : Byte) (q : Option Byte) : Bool :=
  q.isSome == quirk.contains op

/-- Well-formedness of an instruction under a value of `QUIRK_EXTRA`.  Every other operand has the exact width of
its field, so no other check is left to make. -/
def Instr.wfWith (quirk : List Byte) : Instr → Bool
  | .nop => true
  | .lsrd q => quirkFits quirk 0x04 q
  | .asld q => quirkFits quirk 0x05 q
  | .tap q => quirkFits quirk 0x06 q
  | .tpa q => quirkFits quirk 0x07 q
  | .inx q => quirkFits quirk 0x08 q
  | .dex q => quirkFits quirk 0x09 q
  | .clv q => quirkFits quirk 0x0A q
  | .sev q => quirkFits quirk 0x0B q
  | .clc q => quirkFits quirk 0x0C q
  | .sec q => quirkFits quirk 0x0D q
  | .cli q => quirkFits quirk 0x0E q
  | .sei q => quirkFits quirk 0x0F q
  | .sba q => quirkFits quirk 0x10 q
  | .cba q => quirkFits quirk 0x11 q
  | .tab q => quirkFits quirk 0x16 q
  | .tba q => quirkFits quirk 0x17 q
  | .xgdx q => quirkFits quirk 0x18 q
  | .daa q => quirkFits quirk 0x19 q
  | .slp q => quirkFits quirk 0x1A q
  | .aba q => quirkFits quirk 0x1B q
  | .bra _ => true
  | .brn _ => true
  | .bhi _ => true
  | .bls _ => true
  | .bcc _ => true
  | .bcs _ => true
  | .bne _ => true
  | .beq _ => true
  | .bvc _ => true
  | .bvs _ => true
  | .bpl _ => true
  | .bmi _ => true
  | .bge _ => true
  | .blt _ => true
  | .bgt _ => true
  | .ble _ => true
  | .tsx _ => true
  | .ins q => quirkFits quirk 0x31 q
  | .pula _ => true
  | .pulb q => quirkFits quirk 0x33 q
  | .des q => quirkFits quirk 0x34 q
  | .txs q => quirkFits quirk 0x35 q
  | .psha q => quirkFits quirk 0x36 q
  | .pshb q => quirkFits quirk 0x37 q
  | .pulx q => quirkFits quirk 0x38 q
  | .rts _ => true
  | .abx q => quirkFits quirk 0x3A q
  | .rti q => quirkFits quirk 0x3B q
  | .pshx q => quirkFits quirk 0x3C q
  | .mul q => quirkFits quirk 0x3D q
  | .wai q => quirkFits quirk 0x3E q
  | .swi q => quirkFits quirk 0x3F q
  | .nega => true
  | .coma => true
  | .lsra => true
  | .rora => true
  | .asra => true
  | .asla => true
  | .rola => true
  | .deca => true
  | .inca => true
  | .tsta => true
  | .clra => true
  | .negb => true
  | .comb => true
  | .lsrb => true
  | .rorb => true
  | .asrb => true
  | .aslb => true
  | .rolb => true
  | .decb => true
  | .incb => true
  | .tstb => true
  | .clrb => true
  | .negInd _ => true
  | .aimImmInd _ _ => true
  | .oimImmInd _ _ => true
  | .comInd _ => true
  | .lsrInd _ => true
  | .eimImmInd _ _ => true
  | .rorInd _ => true
  | .asrInd _ => true
  | .aslInd _ => true
  | .rolInd _ => true
  | .decInd _ => true
  | .timImmInd _ _ => true
  | .incInd _ => true
  | .tstInd _ => true
  | .jmpInd _ => true
  | .clrInd _ => true
  | .negExt _ => true
  | .aimImmDir _ _ => true
  | .oimImmDir _ _ => true
  | .comExt _ => true
  | .lsrExt _ => true
  | .eimImmDir _ _ => true
  | .rorExt _ => true
  | .asrExt _ => true
  | .aslExt _ => true
  | .rolExt _ => true
  | .decExt _ => true
  | .timImmDir _ _ => true
  | .incExt _ => true
  | .tstExt _ => true
  | .jmpExt _ => true
  | .clrExt _ => true
  | .subaImm _ => true
  | .cmpaImm _ => true
  | .sbcaImm _ => true
  | .subdImm _ => true
  | .andaImm _ => true
  | .bitaImm _ => true
  | .ldaaImm _ => true
  | .eoraImm _ => true
  | .adcaImm _ => true
  | .oraaImm _ => true
  | .addaImm _ => true
  | .cpxImm _ => true
  | .bsr _ => true
  | .ldsImm _ => true
  | .subaDir _ => true
  | .cmpaDir _ => true
  | .sbcaDir _ => true
  | .subdDir _ => true
  | .andaDir _ => true
  | .bitaDir _ => true
  | .ldaaDir _ => true
  | .staaDir _ => true
  | .eoraDir _ => true
  | .adcaDir _ => true
  | .oraaDir _ => true
  | .addaDir _ => true
  | .cpxDir _ => true
  | .jsrDir _ => true
  | .ldsDir _ => true
  | .stsDir _ => true
  | .subaInd _ => true
  | .cmpaInd _ => true
  | .sbcaInd _ => true
  | .subdInd _ => true
  | .andaInd _ => true
  | .bitaInd _ => true
  | .ldaaInd _ => true
  | .staaInd _ => true
  | .eoraInd _ => true
  | .adcaInd _ => true
  | .oraaInd _ => true
  | .addaInd _ => true
  | .cpxInd _ => true
  | .jsrInd _ => true
  | .ldsInd _ => true
  | .stsInd _ => true
  | .subaExt _ => true
  | .cmpaExt _ => true
  | .sbcaExt _ => true
  | .subdExt _ => true
  | .andaExt _ => true
  | .bitaExt _ => true
  | .ldaaExt _ => true
  | .staaExt _ => true
  | .eoraExt _ => true
  | .adcaExt _ => true
  | .oraaExt _ => true
  | .addaExt _ => true
  | .cpxExt _ => true
  | .jsrExt _ => true
  | .ldsExt _ => true
  | .stsExt _ => true
  | .subbImm _ => true
  | .cmpbImm _ => true
  | .sbcbImm _ => true
  | .adddImm _ => true
  | .andbImm _ => true
  | .bitbImm _ => true
  | .ldabImm _ => true
  | .eorbImm _ => true
  | .adcbImm _ => true
  | .orabImm _ => true
  | .addbImm _ => true
  | .lddImm _ => true
  | .ldxImm _ => true
  | .subbDir _ => true
  | .cmpbDir _ => true
  | .sbcbDir _ => true
  | .adddDir _ => true
  | .andbDir _ => true
  | .bitbDir _ => true
  | .ldabDir _ => true
  | .stabDir _ => true
  | .eorbDir _ => true
  | .adcbDir _ => true
  | .orabDir _ => true
  | .addbDir _ => true
  | .lddDir _ => true
  | .stdDir _ => true
  | .ldxDir _ => true
  | .stxDir _ => true
  | .subbInd _ => true
  | .cmpbInd _ => true
  | .sbcbInd _ => true
  | .adddInd _ => true
  | .andbInd _ => true
  | .bitbInd _ => true
  | .ldabInd _ => true
  | .stabInd _ => true
  | .eorbInd _ => true
  | .adcbInd _ => true
  | .orabInd _ => true
  | .addbInd _ => true
  | .lddInd _ => true
  | .stdInd _ => true
  | .ldxInd _ => true
  | .stxInd _ => true
  | .subbExt _ => true
  | .cmpbExt _ => true
  | .sbcbExt _ => true
  | .adddExt _ => true
  | .andbExt _ => true
  | .bitbExt _ => true
  | .ldabExt _ => true
  | .stabExt _ => true
  | .eorbExt _ => true
  | .adcbExt _ => true
  | .orabExt _ => true
  | .addbExt _ => true
  | .lddExt _ => true
  | .stdExt _ => true
  | .ldxExt _ => true

/-- Well-formedness under the configured `QUIRK_EXTRA`. -/
def Instr.wf (i : Instr) : Bool := i.wfWith Config.quirkExtra

end Sys2Proof
end

