-- ==== Sys2Proof/Decode.lean ====
section
/-! DEFINITION. The decoder of instruction bytes, total on any bytes and rejecting by name, and after it the
encoder, both written from the encodings of spec/opcode_table.json (30_encoding.md R80, R81, R91). -/

namespace Sys2Proof

/-- Why bytes decode to no instruction (60_exceptions.md R701, R703). -/
inductive DecodeError where
  /-- No opcode byte, or fewer operand bytes than the row's shape takes. -/
  | short
  /-- The opcode byte has no row. -/
  | undefinedOpcode (op : Byte)
  deriving DecidableEq, Repr

/-- How a row's operand bytes make an instruction (30_encoding.md R81, R86). -/
inductive OperandForm where
  /-- No operand byte. -/
  | fixed (i : Instr)
  /-- No operand byte, or one where `QUIRK_EXTRA` holds the opcode (R94). -/
  | quirkable (mk : Option Byte → Instr)
  /-- One operand byte. -/
  | byte (mk : Byte → Instr)
  /-- Two operand bytes, one big-endian word. -/
  | word (mk : Word → Instr)
  /-- Two operand bytes, two fields in address order. -/
  | pair (mk : Byte → Byte → Instr)

/-- The instruction a row makes of the bytes after its opcode; `none` where they are too few.  Bytes past the
operand are not read (20_memory.md R65). -/
def OperandForm.build (isQuirk : Bool) : OperandForm → List Byte → Option Instr
  | .fixed i, _ => some i
  | .quirkable mk, rest =>
    match isQuirk, rest with
    | false, _ => some (mk none)
    | true, b :: _ => some (mk (some b))
    | true, [] => none
  | .byte mk, b :: _ => some (mk b)
  | .byte _, [] => none
  | .word mk, b1 :: b2 :: _ => some (mk (wordOf b1 b2))
  | .word _, [_] => none
  | .word _, [] => none
  | .pair mk, b1 :: b2 :: _ => some (mk b1 b2)
  | .pair _, [_] => none
  | .pair _, [] => none

/-- Rows of spec/opcode_table.json whose rules stand in 40_inherent.md, part 1. -/
def rowsInherentA : List (Byte × OperandForm) :=
  [(0x01, .fixed .nop),
   (0x04, .quirkable Instr.lsrd),
   (0x05, .quirkable Instr.asld),
   (0x06, .quirkable Instr.tap),
   (0x07, .quirkable Instr.tpa),
   (0x08, .quirkable Instr.inx),
   (0x09, .quirkable Instr.dex),
   (0x0A, .quirkable Instr.clv),
   (0x0B, .quirkable Instr.sev),
   (0x0C, .quirkable Instr.clc),
   (0x0D, .quirkable Instr.sec),
   (0x0E, .quirkable Instr.cli),
   (0x0F, .quirkable Instr.sei),
   (0x10, .quirkable Instr.sba),
   (0x11, .quirkable Instr.cba),
   (0x16, .quirkable Instr.tab),
   (0x17, .quirkable Instr.tba),
   (0x18, .quirkable Instr.xgdx),
   (0x19, .quirkable Instr.daa),
   (0x1A, .quirkable Instr.slp),
   (0x1B, .quirkable Instr.aba),
   (0x30, .byte Instr.tsx),
   (0x31, .quirkable Instr.ins),
   (0x32, .byte Instr.pula),
   (0x33, .quirkable Instr.pulb),
   (0x34, .quirkable Instr.des),
   (0x35, .quirkable Instr.txs),
   (0x36, .quirkable Instr.psha),
   (0x37, .quirkable Instr.pshb),
   (0x38, .quirkable Instr.pulx)]

/-- Rows of spec/opcode_table.json whose rules stand in 40_inherent.md, part 2. -/
def rowsInherentB : List (Byte × OperandForm) :=
  [(0x39, .byte Instr.rts),
   (0x3A, .quirkable Instr.abx),
   (0x3B, .quirkable Instr.rti),
   (0x3C, .quirkable Instr.pshx),
   (0x3D, .quirkable Instr.mul),
   (0x3E, .quirkable Instr.wai),
   (0x3F, .quirkable Instr.swi),
   (0x40, .fixed .nega),
   (0x43, .fixed .coma),
   (0x44, .fixed .lsra),
   (0x46, .fixed .rora),
   (0x47, .fixed .asra),
   (0x48, .fixed .asla),
   (0x49, .fixed .rola),
   (0x4A, .fixed .deca),
   (0x4C, .fixed .inca),
   (0x4D, .fixed .tsta),
   (0x4F, .fixed .clra),
   (0x50, .fixed .negb),
   (0x53, .fixed .comb),
   (0x54, .fixed .lsrb),
   (0x56, .fixed .rorb),
   (0x57, .fixed .asrb),
   (0x58, .fixed .aslb),
   (0x59, .fixed .rolb),
   (0x5A, .fixed .decb),
   (0x5C, .fixed .incb),
   (0x5D, .fixed .tstb),
   (0x5F, .fixed .clrb)]

/-- Rows of spec/opcode_table.json whose rules stand in 41_control_transfer.md. -/
def rowsControlTransfer : List (Byte × OperandForm) :=
  [(0x20, .byte Instr.bra),
   (0x21, .byte Instr.brn),
   (0x22, .byte Instr.bhi),
   (0x23, .byte Instr.bls),
   (0x24, .byte Instr.bcc),
   (0x25, .byte Instr.bcs),
   (0x26, .byte Instr.bne),
   (0x27, .byte Instr.beq),
   (0x28, .byte Instr.bvc),
   (0x29, .byte Instr.bvs),
   (0x2A, .byte Instr.bpl),
   (0x2B, .byte Instr.bmi),
   (0x2C, .byte Instr.bge),
   (0x2D, .byte Instr.blt),
   (0x2E, .byte Instr.bgt),
   (0x2F, .byte Instr.ble),
   (0x6E, .byte Instr.jmpInd),
   (0x7E, .word Instr.jmpExt),
   (0x8D, .byte Instr.bsr),
   (0x9D, .byte Instr.jsrDir),
   (0xAD, .byte Instr.jsrInd),
   (0xBD, .word Instr.jsrExt)]

/-- Rows of spec/opcode_table.json whose rules stand in 42_memory_rmw.md. -/
def rowsMemoryRmw : List (Byte × OperandForm) :=
  [(0x60, .byte Instr.negInd),
   (0x61, .pair Instr.aimImmInd),
   (0x62, .pair Instr.oimImmInd),
   (0x63, .byte Instr.comInd),
   (0x64, .byte Instr.lsrInd),
   (0x65, .pair Instr.eimImmInd),
   (0x66, .byte Instr.rorInd),
   (0x67, .byte Instr.asrInd),
   (0x68, .byte Instr.aslInd),
   (0x69, .byte Instr.rolInd),
   (0x6A, .byte Instr.decInd),
   (0x6B, .pair Instr.timImmInd),
   (0x6C, .byte Instr.incInd),
   (0x6D, .byte Instr.tstInd),
   (0x6F, .byte Instr.clrInd),
   (0x70, .word Instr.negExt),
   (0x71, .pair Instr.aimImmDir),
   (0x72, .pair Instr.oimImmDir),
   (0x73, .word Instr.comExt),
   (0x74, .word Instr.lsrExt),
   (0x75, .pair Instr.eimImmDir),
   (0x76, .word Instr.rorExt),
   (0x77, .word Instr.asrExt),
   (0x78, .word Instr.aslExt),
   (0x79, .word Instr.rolExt),
   (0x7A, .word Instr.decExt),
   (0x7B, .pair Instr.timImmDir),
   (0x7C, .word Instr.incExt),
   (0x7D, .word Instr.tstExt),
   (0x7F, .word Instr.clrExt)]

/-- Rows of spec/opcode_table.json whose rules stand in 43_accumulator_memory.md, part 1. -/
def rowsAccumulatorMemoryA : List (Byte × OperandForm) :=
  [(0x80, .byte Instr.subaImm),
   (0x81, .byte Instr.cmpaImm),
   (0x82, .byte Instr.sbcaImm),
   (0x83, .word Instr.subdImm),
   (0x84, .byte Instr.andaImm),
   (0x85, .byte Instr.bitaImm),
   (0x86, .byte Instr.ldaaImm),
   (0x88, .byte Instr.eoraImm),
   (0x89, .byte Instr.adcaImm),
   (0x8A, .byte Instr.oraaImm),
   (0x8B, .byte Instr.addaImm),
   (0x8C, .word Instr.cpxImm),
   (0x8E, .word Instr.ldsImm),
   (0x90, .byte Instr.subaDir),
   (0x91, .byte Instr.cmpaDir),
   (0x92, .byte Instr.sbcaDir),
   (0x93, .byte Instr.subdDir),
   (0x94, .byte Instr.andaDir),
   (0x95, .byte Instr.bitaDir),
   (0x96, .byte Instr.ldaaDir),
   (0x97, .byte Instr.staaDir),
   (0x98, .byte Instr.eoraDir),
   (0x99, .byte Instr.adcaDir),
   (0x9A, .byte Instr.oraaDir),
   (0x9B, .byte Instr.addaDir),
   (0x9C, .byte Instr.cpxDir),
   (0x9E, .byte Instr.ldsDir),
   (0x9F, .byte Instr.stsDir),
   (0xA0, .byte Instr.subaInd),
   (0xA1, .byte Instr.cmpaInd)]

/-- Rows of spec/opcode_table.json whose rules stand in 43_accumulator_memory.md, part 2. -/
def rowsAccumulatorMemoryB : List (Byte × OperandForm) :=
  [(0xA2, .byte Instr.sbcaInd),
   (0xA3, .byte Instr.subdInd),
   (0xA4, .byte Instr.andaInd),
   (0xA5, .byte Instr.bitaInd),
   (0xA6, .byte Instr.ldaaInd),
   (0xA7, .byte Instr.staaInd),
   (0xA8, .byte Instr.eoraInd),
   (0xA9, .byte Instr.adcaInd),
   (0xAA, .byte Instr.oraaInd),
   (0xAB, .byte Instr.addaInd),
   (0xAC, .byte Instr.cpxInd),
   (0xAE, .byte Instr.ldsInd),
   (0xAF, .byte Instr.stsInd),
   (0xB0, .word Instr.subaExt),
   (0xB1, .word Instr.cmpaExt),
   (0xB2, .word Instr.sbcaExt),
   (0xB3, .word Instr.subdExt),
   (0xB4, .word Instr.andaExt),
   (0xB5, .word Instr.bitaExt),
   (0xB6, .word Instr.ldaaExt),
   (0xB7, .word Instr.staaExt),
   (0xB8, .word Instr.eoraExt),
   (0xB9, .word Instr.adcaExt),
   (0xBA, .word Instr.oraaExt),
   (0xBB, .word Instr.addaExt),
   (0xBC, .word Instr.cpxExt),
   (0xBE, .word Instr.ldsExt),
   (0xBF, .word Instr.stsExt),
   (0xC0, .byte Instr.subbImm),
   (0xC1, .byte Instr.cmpbImm)]

/-- Rows of spec/opcode_table.json whose rules stand in 43_accumulator_memory.md, part 3. -/
def rowsAccumulatorMemoryC : List (Byte × OperandForm) :=
  [(0xC2, .byte Instr.sbcbImm),
   (0xC3, .word Instr.adddImm),
   (0xC4, .byte Instr.andbImm),
   (0xC5, .byte Instr.bitbImm),
   (0xC6, .byte Instr.ldabImm),
   (0xC8, .byte Instr.eorbImm),
   (0xC9, .byte Instr.adcbImm),
   (0xCA, .byte Instr.orabImm),
   (0xCB, .byte Instr.addbImm),
   (0xCC, .word Instr.lddImm),
   (0xCE, .word Instr.ldxImm),
   (0xD0, .byte Instr.subbDir),
   (0xD1, .byte Instr.cmpbDir),
   (0xD2, .byte Instr.sbcbDir),
   (0xD3, .byte Instr.adddDir),
   (0xD4, .byte Instr.andbDir),
   (0xD5, .byte Instr.bitbDir),
   (0xD6, .byte Instr.ldabDir),
   (0xD7, .byte Instr.stabDir),
   (0xD8, .byte Instr.eorbDir),
   (0xD9, .byte Instr.adcbDir),
   (0xDA, .byte Instr.orabDir),
   (0xDB, .byte Instr.addbDir),
   (0xDC, .byte Instr.lddDir),
   (0xDD, .byte Instr.stdDir),
   (0xDE, .byte Instr.ldxDir),
   (0xDF, .byte Instr.stxDir),
   (0xE0, .byte Instr.subbInd),
   (0xE1, .byte Instr.cmpbInd),
   (0xE2, .byte Instr.sbcbInd)]

/-- Rows of spec/opcode_table.json whose rules stand in 43_accumulator_memory.md, part 4. -/
def rowsAccumulatorMemoryD : List (Byte × OperandForm) :=
  [(0xE3, .byte Instr.adddInd),
   (0xE4, .byte Instr.andbInd),
   (0xE5, .byte Instr.bitbInd),
   (0xE6, .byte Instr.ldabInd),
   (0xE7, .byte Instr.stabInd),
   (0xE8, .byte Instr.eorbInd),
   (0xE9, .byte Instr.adcbInd),
   (0xEA, .byte Instr.orabInd),
   (0xEB, .byte Instr.addbInd),
   (0xEC, .byte Instr.lddInd),
   (0xED, .byte Instr.stdInd),
   (0xEE, .byte Instr.ldxInd),
   (0xEF, .byte Instr.stxInd),
   (0xF0, .word Instr.subbExt),
   (0xF1, .word Instr.cmpbExt),
   (0xF2, .word Instr.sbcbExt),
   (0xF3, .word Instr.adddExt),
   (0xF4, .word Instr.andbExt),
   (0xF5, .word Instr.bitbExt),
   (0xF6, .word Instr.ldabExt),
   (0xF7, .word Instr.stabExt),
   (0xF8, .word Instr.eorbExt),
   (0xF9, .word Instr.adcbExt),
   (0xFA, .word Instr.orabExt),
   (0xFB, .word Instr.addbExt),
   (0xFC, .word Instr.lddExt),
   (0xFD, .word Instr.stdExt),
   (0xFE, .word Instr.ldxExt)]

/-- The whole opcode table: one row per present opcode (30_encoding.md R91, R98). -/
def opcodeRows : List (Byte × OperandForm) :=
  rowsInherentA ++
  rowsInherentB ++
  rowsControlTransfer ++
  rowsMemoryRmw ++
  rowsAccumulatorMemoryA ++
  rowsAccumulatorMemoryB ++
  rowsAccumulatorMemoryC ++
  rowsAccumulatorMemoryD

/-- The first row of a list that carries an opcode. -/
def findRow (op : Byte) : List (Byte × OperandForm) → Option OperandForm
  | [] => none
  | (k, f) :: rest => if k = op then some f else findRow op rest

/-- The decoder under a value of `QUIRK_EXTRA`, on the valid bytes of a window (30_encoding.md R88, 60_exceptions.md
R705: no byte is short, an absent opcode is undefined whatever follows, too few operand bytes are short).  DESIGN CHOICE,
log entry 20: an opcode outside the domain of `QUIRK_EXTRA` that the value names is ignored. -/
def decodeWith (quirk : List Byte) : List Byte → Except DecodeError Instr
  | [] => .error .short
  | op :: rest =>
    match findRow op opcodeRows with
    | none => .error (.undefinedOpcode op)
    | some f =>
      match f.build (quirk.contains op) rest with
      | some i => .ok i
      | none => .error .short

/-- The decoder under the configured `QUIRK_EXTRA`. -/
def decode (bytes : List Byte) : Except DecodeError Instr := decodeWith Config.quirkExtra bytes

/-- The operand byte of a quirkable row, where it has one. -/
def quirkBytes : Option Byte → List Byte
  | none => []
  | some b => [b]

/-- The bytes of an instruction in address order: the opcode, then the operand bytes, a word's high byte first
(30_encoding.md R80, 20_memory.md R63). -/
def encode : Instr → List Byte
  | .nop => [0x01]
  | .lsrd q => 0x04 :: quirkBytes q
  | .asld q => 0x05 :: quirkBytes q
  | .tap q => 0x06 :: quirkBytes q
  | .tpa q => 0x07 :: quirkBytes q
  | .inx q => 0x08 :: quirkBytes q
  | .dex q => 0x09 :: quirkBytes q
  | .clv q => 0x0A :: quirkBytes q
  | .sev q => 0x0B :: quirkBytes q
  | .clc q => 0x0C :: quirkBytes q
  | .sec q => 0x0D :: quirkBytes q
  | .cli q => 0x0E :: quirkBytes q
  | .sei q => 0x0F :: quirkBytes q
  | .sba q => 0x10 :: quirkBytes q
  | .cba q => 0x11 :: quirkBytes q
  | .tab q => 0x16 :: quirkBytes q
  | .tba q => 0x17 :: quirkBytes q
  | .xgdx q => 0x18 :: quirkBytes q
  | .daa q => 0x19 :: quirkBytes q
  | .slp q => 0x1A :: quirkBytes q
  | .aba q => 0x1B :: quirkBytes q
  | .bra rel8 => [0x20, rel8]
  | .brn rel8 => [0x21, rel8]
  | .bhi rel8 => [0x22, rel8]
  | .bls rel8 => [0x23, rel8]
  | .bcc rel8 => [0x24, rel8]
  | .bcs rel8 => [0x25, rel8]
  | .bne rel8 => [0x26, rel8]
  | .beq rel8 => [0x27, rel8]
  | .bvc rel8 => [0x28, rel8]
  | .bvs rel8 => [0x29, rel8]
  | .bpl rel8 => [0x2A, rel8]
  | .bmi rel8 => [0x2B, rel8]
  | .bge rel8 => [0x2C, rel8]
  | .blt rel8 => [0x2D, rel8]
  | .bgt rel8 => [0x2E, rel8]
  | .ble rel8 => [0x2F, rel8]
  | .tsx b => [0x30, b]
  | .ins q => 0x31 :: quirkBytes q
  | .pula b => [0x32, b]
  | .pulb q => 0x33 :: quirkBytes q
  | .des q => 0x34 :: quirkBytes q
  | .txs q => 0x35 :: quirkBytes q
  | .psha q => 0x36 :: quirkBytes q
  | .pshb q => 0x37 :: quirkBytes q
  | .pulx q => 0x38 :: quirkBytes q
  | .rts b => [0x39, b]
  | .abx q => 0x3A :: quirkBytes q
  | .rti q => 0x3B :: quirkBytes q
  | .pshx q => 0x3C :: quirkBytes q
  | .mul q => 0x3D :: quirkBytes q
  | .wai q => 0x3E :: quirkBytes q
  | .swi q => 0x3F :: quirkBytes q
  | .nega => [0x40]
  | .coma => [0x43]
  | .lsra => [0x44]
  | .rora => [0x46]
  | .asra => [0x47]
  | .asla => [0x48]
  | .rola => [0x49]
  | .deca => [0x4A]
  | .inca => [0x4C]
  | .tsta => [0x4D]
  | .clra => [0x4F]
  | .negb => [0x50]
  | .comb => [0x53]
  | .lsrb => [0x54]
  | .rorb => [0x56]
  | .asrb => [0x57]
  | .aslb => [0x58]
  | .rolb => [0x59]
  | .decb => [0x5A]
  | .incb => [0x5C]
  | .tstb => [0x5D]
  | .clrb => [0x5F]
  | .negInd off8 => [0x60, off8]
  | .aimImmInd imm8 off8 => [0x61, imm8, off8]
  | .oimImmInd imm8 off8 => [0x62, imm8, off8]
  | .comInd off8 => [0x63, off8]
  | .lsrInd off8 => [0x64, off8]
  | .eimImmInd imm8 off8 => [0x65, imm8, off8]
  | .rorInd off8 => [0x66, off8]
  | .asrInd off8 => [0x67, off8]
  | .aslInd off8 => [0x68, off8]
  | .rolInd off8 => [0x69, off8]
  | .decInd off8 => [0x6A, off8]
  | .timImmInd imm8 off8 => [0x6B, imm8, off8]
  | .incInd off8 => [0x6C, off8]
  | .tstInd off8 => [0x6D, off8]
  | .jmpInd off8 => [0x6E, off8]
  | .clrInd off8 => [0x6F, off8]
  | .negExt ext16 => [0x70, hiByte ext16, loByte ext16]
  | .aimImmDir imm8 dir8 => [0x71, imm8, dir8]
  | .oimImmDir imm8 dir8 => [0x72, imm8, dir8]
  | .comExt ext16 => [0x73, hiByte ext16, loByte ext16]
  | .lsrExt ext16 => [0x74, hiByte ext16, loByte ext16]
  | .eimImmDir imm8 dir8 => [0x75, imm8, dir8]
  | .rorExt ext16 => [0x76, hiByte ext16, loByte ext16]
  | .asrExt ext16 => [0x77, hiByte ext16, loByte ext16]
  | .aslExt ext16 => [0x78, hiByte ext16, loByte ext16]
  | .rolExt ext16 => [0x79, hiByte ext16, loByte ext16]
  | .decExt ext16 => [0x7A, hiByte ext16, loByte ext16]
  | .timImmDir imm8 dir8 => [0x7B, imm8, dir8]
  | .incExt ext16 => [0x7C, hiByte ext16, loByte ext16]
  | .tstExt ext16 => [0x7D, hiByte ext16, loByte ext16]
  | .jmpExt ext16 => [0x7E, hiByte ext16, loByte ext16]
  | .clrExt ext16 => [0x7F, hiByte ext16, loByte ext16]
  | .subaImm imm8 => [0x80, imm8]
  | .cmpaImm imm8 => [0x81, imm8]
  | .sbcaImm imm8 => [0x82, imm8]
  | .subdImm imm16 => [0x83, hiByte imm16, loByte imm16]
  | .andaImm imm8 => [0x84, imm8]
  | .bitaImm imm8 => [0x85, imm8]
  | .ldaaImm imm8 => [0x86, imm8]
  | .eoraImm imm8 => [0x88, imm8]
  | .adcaImm imm8 => [0x89, imm8]
  | .oraaImm imm8 => [0x8A, imm8]
  | .addaImm imm8 => [0x8B, imm8]
  | .cpxImm imm16 => [0x8C, hiByte imm16, loByte imm16]
  | .bsr rel8 => [0x8D, rel8]
  | .ldsImm imm16 => [0x8E, hiByte imm16, loByte imm16]
  | .subaDir dir8 => [0x90, dir8]
  | .cmpaDir dir8 => [0x91, dir8]
  | .sbcaDir dir8 => [0x92, dir8]
  | .subdDir dir8 => [0x93, dir8]
  | .andaDir dir8 => [0x94, dir8]
  | .bitaDir dir8 => [0x95, dir8]
  | .ldaaDir dir8 => [0x96, dir8]
  | .staaDir dir8 => [0x97, dir8]
  | .eoraDir dir8 => [0x98, dir8]
  | .adcaDir dir8 => [0x99, dir8]
  | .oraaDir dir8 => [0x9A, dir8]
  | .addaDir dir8 => [0x9B, dir8]
  | .cpxDir dir8 => [0x9C, dir8]
  | .jsrDir dir8 => [0x9D, dir8]
  | .ldsDir dir8 => [0x9E, dir8]
  | .stsDir dir8 => [0x9F, dir8]
  | .subaInd off8 => [0xA0, off8]
  | .cmpaInd off8 => [0xA1, off8]
  | .sbcaInd off8 => [0xA2, off8]
  | .subdInd off8 => [0xA3, off8]
  | .andaInd off8 => [0xA4, off8]
  | .bitaInd off8 => [0xA5, off8]
  | .ldaaInd off8 => [0xA6, off8]
  | .staaInd off8 => [0xA7, off8]
  | .eoraInd off8 => [0xA8, off8]
  | .adcaInd off8 => [0xA9, off8]
  | .oraaInd off8 => [0xAA, off8]
  | .addaInd off8 => [0xAB, off8]
  | .cpxInd off8 => [0xAC, off8]
  | .jsrInd off8 => [0xAD, off8]
  | .ldsInd off8 => [0xAE, off8]
  | .stsInd off8 => [0xAF, off8]
  | .subaExt ext16 => [0xB0, hiByte ext16, loByte ext16]
  | .cmpaExt ext16 => [0xB1, hiByte ext16, loByte ext16]
  | .sbcaExt ext16 => [0xB2, hiByte ext16, loByte ext16]
  | .subdExt ext16 => [0xB3, hiByte ext16, loByte ext16]
  | .andaExt ext16 => [0xB4, hiByte ext16, loByte ext16]
  | .bitaExt ext16 => [0xB5, hiByte ext16, loByte ext16]
  | .ldaaExt ext16 => [0xB6, hiByte ext16, loByte ext16]
  | .staaExt ext16 => [0xB7, hiByte ext16, loByte ext16]
  | .eoraExt ext16 => [0xB8, hiByte ext16, loByte ext16]
  | .adcaExt ext16 => [0xB9, hiByte ext16, loByte ext16]
  | .oraaExt ext16 => [0xBA, hiByte ext16, loByte ext16]
  | .addaExt ext16 => [0xBB, hiByte ext16, loByte ext16]
  | .cpxExt ext16 => [0xBC, hiByte ext16, loByte ext16]
  | .jsrExt ext16 => [0xBD, hiByte ext16, loByte ext16]
  | .ldsExt ext16 => [0xBE, hiByte ext16, loByte ext16]
  | .stsExt ext16 => [0xBF, hiByte ext16, loByte ext16]
  | .subbImm imm8 => [0xC0, imm8]
  | .cmpbImm imm8 => [0xC1, imm8]
  | .sbcbImm imm8 => [0xC2, imm8]
  | .adddImm imm16 => [0xC3, hiByte imm16, loByte imm16]
  | .andbImm imm8 => [0xC4, imm8]
  | .bitbImm imm8 => [0xC5, imm8]
  | .ldabImm imm8 => [0xC6, imm8]
  | .eorbImm imm8 => [0xC8, imm8]
  | .adcbImm imm8 => [0xC9, imm8]
  | .orabImm imm8 => [0xCA, imm8]
  | .addbImm imm8 => [0xCB, imm8]
  | .lddImm imm16 => [0xCC, hiByte imm16, loByte imm16]
  | .ldxImm imm16 => [0xCE, hiByte imm16, loByte imm16]
  | .subbDir dir8 => [0xD0, dir8]
  | .cmpbDir dir8 => [0xD1, dir8]
  | .sbcbDir dir8 => [0xD2, dir8]
  | .adddDir dir8 => [0xD3, dir8]
  | .andbDir dir8 => [0xD4, dir8]
  | .bitbDir dir8 => [0xD5, dir8]
  | .ldabDir dir8 => [0xD6, dir8]
  | .stabDir dir8 => [0xD7, dir8]
  | .eorbDir dir8 => [0xD8, dir8]
  | .adcbDir dir8 => [0xD9, dir8]
  | .orabDir dir8 => [0xDA, dir8]
  | .addbDir dir8 => [0xDB, dir8]
  | .lddDir dir8 => [0xDC, dir8]
  | .stdDir dir8 => [0xDD, dir8]
  | .ldxDir dir8 => [0xDE, dir8]
  | .stxDir dir8 => [0xDF, dir8]
  | .subbInd off8 => [0xE0, off8]
  | .cmpbInd off8 => [0xE1, off8]
  | .sbcbInd off8 => [0xE2, off8]
  | .adddInd off8 => [0xE3, off8]
  | .andbInd off8 => [0xE4, off8]
  | .bitbInd off8 => [0xE5, off8]
  | .ldabInd off8 => [0xE6, off8]
  | .stabInd off8 => [0xE7, off8]
  | .eorbInd off8 => [0xE8, off8]
  | .adcbInd off8 => [0xE9, off8]
  | .orabInd off8 => [0xEA, off8]
  | .addbInd off8 => [0xEB, off8]
  | .lddInd off8 => [0xEC, off8]
  | .stdInd off8 => [0xED, off8]
  | .ldxInd off8 => [0xEE, off8]
  | .stxInd off8 => [0xEF, off8]
  | .subbExt ext16 => [0xF0, hiByte ext16, loByte ext16]
  | .cmpbExt ext16 => [0xF1, hiByte ext16, loByte ext16]
  | .sbcbExt ext16 => [0xF2, hiByte ext16, loByte ext16]
  | .adddExt ext16 => [0xF3, hiByte ext16, loByte ext16]
  | .andbExt ext16 => [0xF4, hiByte ext16, loByte ext16]
  | .bitbExt ext16 => [0xF5, hiByte ext16, loByte ext16]
  | .ldabExt ext16 => [0xF6, hiByte ext16, loByte ext16]
  | .stabExt ext16 => [0xF7, hiByte ext16, loByte ext16]
  | .eorbExt ext16 => [0xF8, hiByte ext16, loByte ext16]
  | .adcbExt ext16 => [0xF9, hiByte ext16, loByte ext16]
  | .orabExt ext16 => [0xFA, hiByte ext16, loByte ext16]
  | .addbExt ext16 => [0xFB, hiByte ext16, loByte ext16]
  | .lddExt ext16 => [0xFC, hiByte ext16, loByte ext16]
  | .stdExt ext16 => [0xFD, hiByte ext16, loByte ext16]
  | .ldxExt ext16 => [0xFE, hiByte ext16, loByte ext16]

/-- Byte `k` of a number, byte 0 being bits 7..0. -/
def byteOfNat (k w : Nat) : Byte := BitVec.ofNat 8 (w / 256 ^ k)

/-- Bytes in address order as one number, the first byte the most significant. -/
def bytesToNat : List Byte → Nat
  | [] => 0
  | b :: rest => b.toNat * 256 ^ rest.length + bytesToNat rest

/-- The `n` bytes of a number in address order, the first byte the most significant. -/
def natToBytes : Nat → Nat → List Byte
  | 0, _ => []
  | n + 1, w => byteOfNat n w :: natToBytes n w

/-- An instruction as the bit string of 30_encoding.md R80: at total length n an 8n-bit word, bits [8n-1:8n-8] the
opcode and the remaining bits the operand bytes in address order. -/
def encodingWord (i : Instr) : BitVec (8 * (encode i).length) := BitVec.ofNat _ (bytesToNat (encode i))

/-- The instruction that an 8n-bit word is (30_encoding.md R80): the one that its bytes decode to, all n of them used. -/
def decodeEncodingWord (quirk : List Byte) (n : Nat) (w : BitVec (8 * n)) : Option Instr :=
  match decodeWith quirk (natToBytes n w.toNat) with
  | .ok i => if (encode i).length = n then some i else none
  | .error _ => none

/-- The bytes, in address order, of an instruction whose bits are `w`, numbered as the `fixed` entries of
spec/opcode_table.json number them (the opcode is bits 7..0 of every row, and byte `k` in address order is bits
8k+7..8k), with every bit from `nbits` up to the longest instruction 0.  It is not the bit string of 30_encoding.md
R80, which is `encodingWord` (log entry 19). -/
def tableWordBytes (nbits w : Nat) : List Byte :=
  let v := w % 2 ^ nbits
  [byteOfNat 0 v, byteOfNat 1 v, byteOfNat 2 v]

/-- The instruction the decoder reads from a row's bits, in the numbering of `tableWordBytes` (log entry 19). -/
def decodeTableWord (nbits w : Nat) : Option Instr :=
  match decode (tableWordBytes nbits w) with
  | .ok i => some i
  | .error _ => none

end Sys2Proof
end

