-- ==== Sys2Proof/Machine/State.lean ====
section
/-! DEFINITION. The ports of the block (10_state.md R31, R32), the state made of them, its reset, and the reasons a
step can stop. -/

namespace Sys2Proof.Machine

/-- The outcome code driven on `status` (60_exceptions.md R700). -/
inductive Status where
  | ok
  | undefined
  | short
  deriving DecidableEq, Repr

/-- The control-flow category `cat` (41_control_transfer.md R300). -/
inductive Category where
  | none
  | cond
  | call
  | jump
  deriving DecidableEq, Repr

/-- The kind of a control-flow edge (10_state.md R32). -/
inductive EdgeKind where
  | taken
  | fallthrough
  | call
  | uncond
  deriving DecidableEq, Repr

/-- A valid control-flow edge: its kind and its target. -/
structure Edge where
  kind : EdgeKind
  target : Word
  deriving DecidableEq, Repr

/-- A display token (30_encoding.md R103, R105): literal text, a number, an address, a register name, or the
opcode text.  The numeric kinds carry the formatted string and the value behind it. -/
inductive Token where
  | text (s : String)
  | int (s : String) (v : Word)
  | addr (s : String) (v : Word)
  | reg (s : String)
  | op (s : String)
  deriving DecidableEq, Repr

/-- The symbol on `mnem`: a member of the closed mnemonic set, or the sentinel `UNDEF_MNEMONIC` (30_encoding.md
R96). -/
inductive MnemSymbol where
  | sentinel
  | known (m : Mnemonic)
  deriving DecidableEq, Repr

/-- The output ports other than `status`, as driven on an `OK` or `UNDEFINED` decode (10_state.md R32).  An edge port
is `some` exactly when its `valid` bit is 1; the spec defines no kind and no target for an invalid one. -/
structure DecodeRecord where
  /-- `opcode`, 8 bits: `win.b0`. -/
  opcode : Byte
  /-- `mnem`. -/
  mnem : MnemSymbol
  /-- `shape`, 3 bits by its code. -/
  shape : Shape
  /-- `oplen`, 2 bits. -/
  oplen : BitVec 2
  /-- `ilen`, 2 bits. -/
  ilen : BitVec 2
  /-- `opval_valid`, 1 bit. -/
  opvalValid : Bool
  /-- `opval`, 16 bits. -/
  opval : Word
  /-- `fhi`, 8 bits. -/
  fhi : Byte
  /-- `flo`, 8 bits. -/
  flo : Byte
  /-- `cat`, 2 bits by its code. -/
  cat : Category
  /-- `e0_valid`, `e0_kind`, `e0_target`. -/
  e0 : Option Edge
  /-- `e1_valid`, `e1_kind`, `e1_target`. -/
  e1 : Option Edge
  /-- `next_addr`, 16 bits. -/
  nextAddr : Word
  /-- `tokens`: the operand display tokens. -/
  tokens : List Token
  /-- `nop_byte`, 8 bits. -/
  nopByte : Byte
  deriving DecidableEq, Repr

/-- The outputs of one decode, by outcome.  On `SHORT` only `status` is defined: no other output is given a value
(60_exceptions.md R703; log entry 2). -/
inductive Outputs where
  | short
  | undefined (r : DecodeRecord)
  | ok (r : DecodeRecord)
  deriving DecidableEq, Repr

/-- The `status` port. -/
def Outputs.status : Outputs → Status
  | .short => .short
  | .undefined _ => .undefined
  | .ok _ => .ok

/-- The other output ports, where the outcome defines them. -/
def Outputs.record? : Outputs → Option DecodeRecord
  | .short => Option.none
  | .undefined r => some r
  | .ok r => some r

/-- The input ports at one instant, and what the host's last decode answered.  The block keeps no mutable state
(10_state.md R30, R40), so its output ports are no field: at every instant they are `State.outputs`, a function of the
first three fields (R41).  The fourth field is the model's own, so that a step has a result (log entry 8). -/
structure State where
  /-- `addr`, 16 bits: the address of the opcode byte. -/
  addr : Word
  /-- `win`, 24 bits: `b0` in bits 23..16, `b1` in bits 15..8, `b2` in bits 7..0. -/
  win : BitVec 24
  /-- `avail`, 2 bits: how many bytes of `win` are valid, counted from `b0`. -/
  avail : BitVec 2
  /-- What the last decode answered, produced fresh by each decode (10_state.md R33); no output port and no later
  decode reads it. -/
  out : Outputs
  deriving DecidableEq, Repr

/-- The block raises nothing (60_exceptions.md R700, R708): there is no fault, so this type has no constructor. -/
inductive Fault where
  deriving DecidableEq, Repr

/-- Why a step gives no next state. -/
inductive Refusal where
  /-- Raised by an arm of `exec` whose instruction has no meaning in this model; no arm raises it.  Safe: nothing can
  be proved about an instruction that is refused. -/
  | notModelled (mnemonic : String)
  deriving DecidableEq, Repr

/-- The ports when no window is presented yet: the inputs are the model's choice (log entry 1), and the last answer is
what such inputs decode to, `SHORT` since `avail` is 0 (60_exceptions.md R705; log entries 1, 8). -/
def State.reset : State where
  addr := 0
  win := 0
  avail := 0
  out := .short

end Sys2Proof.Machine
end

