-- ==== Sys2Proof/Machine/Operands.lean ====
section
/-! DEFINITION. The operand shapes: length, code, operand assembly, and the display tokens of each shape
(30_encoding.md R81 to R87, R101 to R110). -/

namespace Sys2Proof

/-- `len(shape)`: how many operand bytes (30_encoding.md R81). -/
def Shape.len : Shape → Nat
  | .none => 0
  | .byteImmediate => 1
  | .wordImmediate => 2
  | .byteAddress => 1
  | .wordAddress => 2
  | .indexed => 1
  | .directMemory => 2
  | .immediateIndexed => 2

/-- The 3-bit `shape` code (30_encoding.md R81, 92_eei_decisions.md D7). -/
def Shape.code : Shape → BitVec 3
  | .none => 0
  | .byteImmediate => 1
  | .wordImmediate => 2
  | .byteAddress => 3
  | .wordAddress => 4
  | .indexed => 5
  | .directMemory => 6
  | .immediateIndexed => 7

namespace Machine

/-- Operand assembly of a shape from the two bytes after the opcode: nothing, one byte zero-extended, or a
big-endian word (30_encoding.md R86). -/
def operandValue (S : Shape) (b1 b2 : Byte) : Word :=
  match S.len with
  | 0 => 0
  | 1 => zext16 b1
  | _ => wordOf b1 b2

/-- The lowercase hexadecimal digit of a number below 16 (30_encoding.md R104, 92_eei_decisions.md D11). -/
def hexDigit (n : Nat) : Char :=
  if n < 10 then Char.ofNat (48 + n) else Char.ofNat (87 + n)

/-- `hex2(v)`: the marker `$` and two hex digits of `v[7:0]` (30_encoding.md R104). -/
def hex2 (v : Word) : String :=
  String.ofList ['$', hexDigit ((loByte v).toNat / 16), hexDigit ((loByte v).toNat % 16)]

/-- `hex4(v)`: the marker `$` and four hex digits of `v[15:0]` (30_encoding.md R104). -/
def hex4 (v : Word) : String :=
  String.ofList ['$', hexDigit (v.toNat / 4096), hexDigit (v.toNat / 256 % 16),
    hexDigit (v.toNat / 16 % 16), hexDigit (v.toNat % 16)]

/-- `Render(S, v)`: the operand tokens of a shape (30_encoding.md R110). -/
def render (S : Shape) (v : Word) : List Token :=
  match S with
  | .none => []
  | .byteImmediate => [.text "#", .int (hex2 v) v]
  | .wordImmediate => [.text "#", .int (hex4 v) v]
  | .byteAddress => [.addr (hex2 v) v]
  | .wordAddress => [.addr (hex4 v) v]
  | .indexed => [.int (hex2 v) v, .text ",", .reg "x"]
  | .directMemory =>
    let imm := zext16 (hiByte v)
    let dir := zext16 (loByte v)
    [.text "#", .int (hex2 imm) imm, .text ",", .addr (hex2 dir) dir]
  | .immediateIndexed =>
    let imm := zext16 (hiByte v)
    let off := zext16 (loByte v)
    [.text "#", .int (hex2 imm) imm, .text ",", .int (hex2 off) off, .text ",", .reg "x"]

/-- `tokens` of a decode: the shape's tokens where an operand is present, else nothing (30_encoding.md R88,
R106). -/
def operandTokens (S : Shape) (v : Word) : List Token :=
  if S.len = 0 then [] else render S v

/-- Left justification in a column: spaces on the right up to `width` (30_encoding.md R105). -/
def padRight (s : String) (width : Nat) : String :=
  s ++ String.ofList (List.replicate (width - s.length) ' ')

/-- The opcode-text token of a mnemonic's text in a column of `width` (30_encoding.md R105). -/
def opToken (width : Nat) (text : String) : Token :=
  .op (padRight text width ++ " ")

end Machine

end Sys2Proof
end

