-- ==== Sys2Proof/Machine/Classify.lean ====
section
/-! DEFINITION. Mnemonic text and index, the control-flow classifier and the 16-bit address ALU (30_encoding.md R96,
41_control_transfer.md R300 to R308). -/

namespace Sys2Proof

/-- The lowercase text of a mnemonic (30_encoding.md R96, R101). -/
def Mnemonic.text : Mnemonic → String
  | .nop => "nop"
  | .lsrd => "lsrd"
  | .asld => "asld"
  | .tap => "tap"
  | .tpa => "tpa"
  | .inx => "inx"
  | .dex => "dex"
  | .clv => "clv"
  | .sev => "sev"
  | .clc => "clc"
  | .sec => "sec"
  | .cli => "cli"
  | .sei => "sei"
  | .sba => "sba"
  | .cba => "cba"
  | .tab => "tab"
  | .tba => "tba"
  | .xgdx => "xgdx"
  | .daa => "daa"
  | .slp => "slp"
  | .aba => "aba"
  | .bra => "bra"
  | .brn => "brn"
  | .bhi => "bhi"
  | .bls => "bls"
  | .bcc => "bcc"
  | .bcs => "bcs"
  | .bne => "bne"
  | .beq => "beq"
  | .bvc => "bvc"
  | .bvs => "bvs"
  | .bpl => "bpl"
  | .bmi => "bmi"
  | .bge => "bge"
  | .blt => "blt"
  | .bgt => "bgt"
  | .ble => "ble"
  | .tsx => "tsx"
  | .ins => "ins"
  | .pula => "pula"
  | .pulb => "pulb"
  | .des => "des"
  | .txs => "txs"
  | .psha => "psha"
  | .pshb => "pshb"
  | .pulx => "pulx"
  | .rts => "rts"
  | .abx => "abx"
  | .rti => "rti"
  | .pshx => "pshx"
  | .mul => "mul"
  | .wai => "wai"
  | .swi => "swi"
  | .nega => "nega"
  | .coma => "coma"
  | .lsra => "lsra"
  | .rora => "rora"
  | .asra => "asra"
  | .asla => "asla"
  | .rola => "rola"
  | .deca => "deca"
  | .inca => "inca"
  | .tsta => "tsta"
  | .clra => "clra"
  | .negb => "negb"
  | .comb => "comb"
  | .lsrb => "lsrb"
  | .rorb => "rorb"
  | .asrb => "asrb"
  | .aslb => "aslb"
  | .rolb => "rolb"
  | .decb => "decb"
  | .incb => "incb"
  | .tstb => "tstb"
  | .clrb => "clrb"
  | .neg => "neg"
  | .aim => "aim"
  | .oim => "oim"
  | .com => "com"
  | .lsr => "lsr"
  | .eim => "eim"
  | .ror => "ror"
  | .asr => "asr"
  | .asl => "asl"
  | .rol => "rol"
  | .dec => "dec"
  | .tim => "tim"
  | .inc => "inc"
  | .tst => "tst"
  | .jmp => "jmp"
  | .clr => "clr"
  | .suba => "suba"
  | .cmpa => "cmpa"
  | .sbca => "sbca"
  | .subd => "subd"
  | .anda => "anda"
  | .bita => "bita"
  | .ldaa => "ldaa"
  | .eora => "eora"
  | .adca => "adca"
  | .oraa => "oraa"
  | .adda => "adda"
  | .cpx => "cpx"
  | .bsr => "bsr"
  | .lds => "lds"
  | .staa => "staa"
  | .jsr => "jsr"
  | .sts => "sts"
  | .subb => "subb"
  | .cmpb => "cmpb"
  | .sbcb => "sbcb"
  | .addd => "addd"
  | .andb => "andb"
  | .bitb => "bitb"
  | .ldab => "ldab"
  | .eorb => "eorb"
  | .adcb => "adcb"
  | .orab => "orab"
  | .addb => "addb"
  | .ldd => "ldd"
  | .ldx => "ldx"
  | .stab => "stab"
  | .std => "std"
  | .stx => "stx"

/-- The index of a mnemonic: its place in order of first opcode (30_encoding.md R96, 92_eei_decisions.md D22). -/
def Mnemonic.index (m : Mnemonic) : Nat := m.ctorIdx

namespace Machine

/-- The text on `mnem`, given the sentinel's text (00_scope.md R8). -/
def MnemSymbol.textWith (undef : String) : MnemSymbol → String
  | .sentinel => undef
  | .known m => m.text

/-- The text on `mnem` under the configured `UNDEF_MNEMONIC`. -/
def MnemSymbol.text (m : MnemSymbol) : String := m.textWith Config.undefMnemonic

/-- The category of a mnemonic: the 16 relative branches, `jsr`, `jmp`, and every other one
(41_control_transfer.md R300). -/
def category : Mnemonic → Category
  | .bra | .brn | .bhi | .bls | .bcc | .bcs | .bne | .beq
  | .bvc | .bvs | .bpl | .bmi | .bge | .blt | .bgt | .ble => .cond
  | .jsr => .call
  | .jmp => .jump
  | _ => .none

/-- `T = addr +16 sext_16(opval[7:0]) +16 2` (41_control_transfer.md R303, R304). -/
def takenTarget (addr opval : Word) : Word := addr + sext16 (loByte opval) + 2

/-- `F = addr +16 zext_16(ilen)`: the fall-through target and `next_addr` (41_control_transfer.md R305). -/
def fallTarget (addr : Word) (ilen : BitVec 2) : Word := addr + ilen.setWidth 16

/-- The first edge port of a category (41_control_transfer.md R302, R306 to R308). -/
def firstEdge (c : Category) (addr opval : Word) : Option Edge :=
  match c with
  | .none => Option.none
  | .cond => some ⟨.taken, takenTarget addr opval⟩
  | .call => some ⟨.call, opval⟩
  | .jump => some ⟨.uncond, opval⟩

/-- The second edge port of a category: only a relative branch falls through (41_control_transfer.md R302, R306 to
R308). -/
def secondEdge (c : Category) (addr : Word) (ilen : BitVec 2) : Option Edge :=
  match c with
  | .none => Option.none
  | .cond => some ⟨.fallthrough, fallTarget addr ilen⟩
  | .call => Option.none
  | .jump => Option.none

/-- The 2-bit code of a status (60_exceptions.md R700). -/
def Status.code : Status → BitVec 2
  | .ok => 0
  | .undefined => 1
  | .short => 2

/-- The 2-bit code of a category (10_state.md R32). -/
def Category.code : Category → BitVec 2
  | .none => 0
  | .cond => 1
  | .call => 2
  | .jump => 3

/-- The 2-bit code of an edge kind (10_state.md R32). -/
def EdgeKind.code : EdgeKind → BitVec 2
  | .taken => 0
  | .fallthrough => 1
  | .call => 2
  | .uncond => 3

end Machine

end Sys2Proof
end

