-- ==== Sys2Proof/Machine/Ops.lean ====
section
/-! DEFINITION. The shared operations on the ports: the valid bytes of the window, the record of a present and of an
absent row, and driving them.  The block takes no exception and returns from none (60_exceptions.md R700, R708), so
no such operation is here: `UNDEFINED` and `SHORT` are values of `status`. -/

namespace Sys2Proof.Machine

/-- The canonical no-operation byte, the constant on `nop_byte` (30_encoding.md R100). -/
def nopByteValue : Byte := 0x01

/-- `win.b0 = win[23:16]` (10_state.md R31). -/
def winB0 (win : BitVec 24) : Byte := win.extractLsb' 16 8

/-- `win.b1 = win[15:8]` (10_state.md R31). -/
def winB1 (win : BitVec 24) : Byte := win.extractLsb' 8 8

/-- `win.b2 = win[7:0]` (10_state.md R31). -/
def winB2 (win : BitVec 24) : Byte := win.extractLsb' 0 8

/-- A window of three bytes. -/
def packWin (b0 b1 b2 : Byte) : BitVec 24 := b0 ++ b1 ++ b2

/-- The valid bytes of a window; those at positions not less than `avail` are ignored (10_state.md R31). -/
def validBytes (win : BitVec 24) (avail : BitVec 2) : List Byte :=
  [winB0 win, winB1 win, winB2 win].take avail.toNat

/-- How many bytes a window read at an address has before the top of the space: `min(3, 65536 - addr)` (20_memory.md
R62). -/
def windowLimit (addr : Word) : Nat := min 3 (65536 - addr.toNat)

/-- The bytes the block decodes. -/
def State.bytes (s : State) : List Byte := validBytes s.win s.avail

/-- The outputs of a present row of opcode `op`, mnemonic `m` and shape `S`, at operand value `v` and address `addr`
(30_encoding.md R86 to R88). -/
def okRecord (op : Byte) (m : Mnemonic) (S : Shape) (v addr : Word) : DecodeRecord :=
  let ilen := BitVec.ofNat 2 (1 + S.len)
  { opcode := op
    mnem := .known m
    shape := S
    oplen := BitVec.ofNat 2 S.len
    ilen := ilen
    opvalValid := decide (S.len ≠ 0)
    opval := v
    fhi := hiByte v
    flo := loByte v
    cat := category m
    e0 := firstEdge (category m) addr v
    e1 := secondEdge (category m) addr ilen
    nextAddr := fallTarget addr ilen
    tokens := operandTokens S v
    nopByte := nopByteValue }

/-- The outputs of an absent row (60_exceptions.md R701). -/
def undefinedRecord (op : Byte) (addr : Word) : DecodeRecord where
  opcode := op
  mnem := .sentinel
  shape := .none
  oplen := 0
  ilen := 1
  opvalValid := false
  opval := 0
  fhi := 0
  flo := 0
  cat := .none
  e0 := Option.none
  e1 := Option.none
  nextAddr := fallTarget addr 1
  tokens := []
  nopByte := nopByteValue

/-- The state with another last answer: what a decode leaves behind (log entry 8).  The output ports do not change. -/
def State.drive (s : State) (o : Outputs) : State := { s with out := o }

/-- A row's pseudocode: `SHORT` where `avail < 1 + len(S)`, else the row's outputs (60_exceptions.md R703,
30_encoding.md R88). -/
def driveRow (op : Byte) (m : Mnemonic) (S : Shape) (v : Word) (s : State) : Host.Outcome State Fault Refusal :=
  if s.avail.toNat < 1 + S.len then .next (s.drive .short)
  else .next (s.drive (.ok (okRecord op m S v s.addr)))

/-- A row of shape `None`: no operand, so `opval` is 0 (30_encoding.md R86). -/
def driveNone (op : Byte) (m : Mnemonic) (s : State) : Host.Outcome State Fault Refusal :=
  driveRow op m .none 0 s

/-- A row with one operand byte, zero-extended (30_encoding.md R86). -/
def driveByte (op : Byte) (m : Mnemonic) (S : Shape) (b : Byte) (s : State) : Host.Outcome State Fault Refusal :=
  driveRow op m S (zext16 b) s

/-- A row with a big-endian word operand (30_encoding.md R86). -/
def driveWord (op : Byte) (m : Mnemonic) (S : Shape) (w : Word) (s : State) : Host.Outcome State Fault Refusal :=
  driveRow op m S w s

/-- A row with two byte fields, the first the high byte of the operand value (30_encoding.md R85, R87). -/
def drivePair (op : Byte) (m : Mnemonic) (S : Shape) (hi lo : Byte) (s : State) :
    Host.Outcome State Fault Refusal :=
  driveRow op m S (wordOf hi lo) s

/-- A row of shape `None` that takes the shape `ByteAddress` where `QUIRK_EXTRA` holds its opcode (30_encoding.md
R94). -/
def driveQuirkable (op : Byte) (m : Mnemonic) (q : Option Byte) (s : State) : Host.Outcome State Fault Refusal :=
  match q with
  | Option.none => driveNone op m s
  | some b => driveByte op m .byteAddress b s

/-- The undefined outcome of an absent opcode (60_exceptions.md R701): a value, not a trap. -/
def driveUndefined (op : Byte) (s : State) : Host.Outcome State Fault Refusal :=
  .next (s.drive (.undefined (undefinedRecord op s.addr)))

/-- The short outcome (60_exceptions.md R703). -/
def driveShort (s : State) : Host.Outcome State Fault Refusal := .next (s.drive .short)

end Sys2Proof.Machine
end

