-- ==== Sys2Proof/Machine/AccumulatorMemory.lean ====
section
/-! DEFINITION. The 118 rows of 43_accumulator_memory.md (R500 to R530): the accumulator, stack-pointer and index-register rows.  Each meaning is the
pseudocode of its rule: it drives the outputs of its row, or `SHORT` where the window holds too few bytes. -/

namespace Sys2Proof.Machine

/-- `suba`, immediate: opcode 0x80 (R500). -/
def execSubaImm (imm8 : Byte) (s : State) : Host.Outcome State Fault Refusal :=
  driveByte 0x80 .suba .byteImmediate imm8 s

/-- `cmpa`, immediate: opcode 0x81 (R501). -/
def execCmpaImm (imm8 : Byte) (s : State) : Host.Outcome State Fault Refusal :=
  driveByte 0x81 .cmpa .byteImmediate imm8 s

/-- `sbca`, immediate: opcode 0x82 (R502). -/
def execSbcaImm (imm8 : Byte) (s : State) : Host.Outcome State Fault Refusal :=
  driveByte 0x82 .sbca .byteImmediate imm8 s

/-- `subd`, immediate: opcode 0x83 (R503). -/
def execSubdImm (imm16 : Word) (s : State) : Host.Outcome State Fault Refusal :=
  driveWord 0x83 .subd .wordImmediate imm16 s

/-- `anda`, immediate: opcode 0x84 (R504). -/
def execAndaImm (imm8 : Byte) (s : State) : Host.Outcome State Fault Refusal :=
  driveByte 0x84 .anda .byteImmediate imm8 s

/-- `bita`, immediate: opcode 0x85 (R505). -/
def execBitaImm (imm8 : Byte) (s : State) : Host.Outcome State Fault Refusal :=
  driveByte 0x85 .bita .byteImmediate imm8 s

/-- `ldaa`, immediate: opcode 0x86 (R506). -/
def execLdaaImm (imm8 : Byte) (s : State) : Host.Outcome State Fault Refusal :=
  driveByte 0x86 .ldaa .byteImmediate imm8 s

/-- `eora`, immediate: opcode 0x88 (R507). -/
def execEoraImm (imm8 : Byte) (s : State) : Host.Outcome State Fault Refusal :=
  driveByte 0x88 .eora .byteImmediate imm8 s

/-- `adca`, immediate: opcode 0x89 (R508). -/
def execAdcaImm (imm8 : Byte) (s : State) : Host.Outcome State Fault Refusal :=
  driveByte 0x89 .adca .byteImmediate imm8 s

/-- `oraa`, immediate: opcode 0x8A (R509). -/
def execOraaImm (imm8 : Byte) (s : State) : Host.Outcome State Fault Refusal :=
  driveByte 0x8A .oraa .byteImmediate imm8 s

/-- `adda`, immediate: opcode 0x8B (R510). -/
def execAddaImm (imm8 : Byte) (s : State) : Host.Outcome State Fault Refusal :=
  driveByte 0x8B .adda .byteImmediate imm8 s

/-- `cpx`, immediate: opcode 0x8C (R511). -/
def execCpxImm (imm16 : Word) (s : State) : Host.Outcome State Fault Refusal :=
  driveWord 0x8C .cpx .wordImmediate imm16 s

/-- `lds`, immediate: opcode 0x8E (R512). -/
def execLdsImm (imm16 : Word) (s : State) : Host.Outcome State Fault Refusal :=
  driveWord 0x8E .lds .wordImmediate imm16 s

/-- `suba`, direct: opcode 0x90 (R500). -/
def execSubaDir (dir8 : Byte) (s : State) : Host.Outcome State Fault Refusal :=
  driveByte 0x90 .suba .byteAddress dir8 s

/-- `cmpa`, direct: opcode 0x91 (R501). -/
def execCmpaDir (dir8 : Byte) (s : State) : Host.Outcome State Fault Refusal :=
  driveByte 0x91 .cmpa .byteAddress dir8 s

/-- `sbca`, direct: opcode 0x92 (R502). -/
def execSbcaDir (dir8 : Byte) (s : State) : Host.Outcome State Fault Refusal :=
  driveByte 0x92 .sbca .byteAddress dir8 s

/-- `subd`, direct: opcode 0x93 (R503). -/
def execSubdDir (dir8 : Byte) (s : State) : Host.Outcome State Fault Refusal :=
  driveByte 0x93 .subd .byteAddress dir8 s

/-- `anda`, direct: opcode 0x94 (R504). -/
def execAndaDir (dir8 : Byte) (s : State) : Host.Outcome State Fault Refusal :=
  driveByte 0x94 .anda .byteAddress dir8 s

/-- `bita`, direct: opcode 0x95 (R505). -/
def execBitaDir (dir8 : Byte) (s : State) : Host.Outcome State Fault Refusal :=
  driveByte 0x95 .bita .byteAddress dir8 s

/-- `ldaa`, direct: opcode 0x96 (R506). -/
def execLdaaDir (dir8 : Byte) (s : State) : Host.Outcome State Fault Refusal :=
  driveByte 0x96 .ldaa .byteAddress dir8 s

/-- `staa`, direct: opcode 0x97 (R513). -/
def execStaaDir (dir8 : Byte) (s : State) : Host.Outcome State Fault Refusal :=
  driveByte 0x97 .staa .byteAddress dir8 s

/-- `eora`, direct: opcode 0x98 (R507). -/
def execEoraDir (dir8 : Byte) (s : State) : Host.Outcome State Fault Refusal :=
  driveByte 0x98 .eora .byteAddress dir8 s

/-- `adca`, direct: opcode 0x99 (R508). -/
def execAdcaDir (dir8 : Byte) (s : State) : Host.Outcome State Fault Refusal :=
  driveByte 0x99 .adca .byteAddress dir8 s

/-- `oraa`, direct: opcode 0x9A (R509). -/
def execOraaDir (dir8 : Byte) (s : State) : Host.Outcome State Fault Refusal :=
  driveByte 0x9A .oraa .byteAddress dir8 s

/-- `adda`, direct: opcode 0x9B (R510). -/
def execAddaDir (dir8 : Byte) (s : State) : Host.Outcome State Fault Refusal :=
  driveByte 0x9B .adda .byteAddress dir8 s

/-- `cpx`, direct: opcode 0x9C (R511). -/
def execCpxDir (dir8 : Byte) (s : State) : Host.Outcome State Fault Refusal :=
  driveByte 0x9C .cpx .byteAddress dir8 s

/-- `lds`, direct: opcode 0x9E (R512). -/
def execLdsDir (dir8 : Byte) (s : State) : Host.Outcome State Fault Refusal :=
  driveByte 0x9E .lds .byteAddress dir8 s

/-- `sts`, direct: opcode 0x9F (R514). -/
def execStsDir (dir8 : Byte) (s : State) : Host.Outcome State Fault Refusal :=
  driveByte 0x9F .sts .byteAddress dir8 s

/-- `suba`, indexed: opcode 0xA0 (R500). -/
def execSubaInd (off8 : Byte) (s : State) : Host.Outcome State Fault Refusal :=
  driveByte 0xA0 .suba .indexed off8 s

/-- `cmpa`, indexed: opcode 0xA1 (R501). -/
def execCmpaInd (off8 : Byte) (s : State) : Host.Outcome State Fault Refusal :=
  driveByte 0xA1 .cmpa .indexed off8 s

/-- `sbca`, indexed: opcode 0xA2 (R502). -/
def execSbcaInd (off8 : Byte) (s : State) : Host.Outcome State Fault Refusal :=
  driveByte 0xA2 .sbca .indexed off8 s

/-- `subd`, indexed: opcode 0xA3 (R503). -/
def execSubdInd (off8 : Byte) (s : State) : Host.Outcome State Fault Refusal :=
  driveByte 0xA3 .subd .indexed off8 s

/-- `anda`, indexed: opcode 0xA4 (R504). -/
def execAndaInd (off8 : Byte) (s : State) : Host.Outcome State Fault Refusal :=
  driveByte 0xA4 .anda .indexed off8 s

/-- `bita`, indexed: opcode 0xA5 (R505). -/
def execBitaInd (off8 : Byte) (s : State) : Host.Outcome State Fault Refusal :=
  driveByte 0xA5 .bita .indexed off8 s

/-- `ldaa`, indexed: opcode 0xA6 (R506). -/
def execLdaaInd (off8 : Byte) (s : State) : Host.Outcome State Fault Refusal :=
  driveByte 0xA6 .ldaa .indexed off8 s

/-- `staa`, indexed: opcode 0xA7 (R513). -/
def execStaaInd (off8 : Byte) (s : State) : Host.Outcome State Fault Refusal :=
  driveByte 0xA7 .staa .indexed off8 s

/-- `eora`, indexed: opcode 0xA8 (R507). -/
def execEoraInd (off8 : Byte) (s : State) : Host.Outcome State Fault Refusal :=
  driveByte 0xA8 .eora .indexed off8 s

/-- `adca`, indexed: opcode 0xA9 (R508). -/
def execAdcaInd (off8 : Byte) (s : State) : Host.Outcome State Fault Refusal :=
  driveByte 0xA9 .adca .indexed off8 s

/-- `oraa`, indexed: opcode 0xAA (R509). -/
def execOraaInd (off8 : Byte) (s : State) : Host.Outcome State Fault Refusal :=
  driveByte 0xAA .oraa .indexed off8 s

/-- `adda`, indexed: opcode 0xAB (R510). -/
def execAddaInd (off8 : Byte) (s : State) : Host.Outcome State Fault Refusal :=
  driveByte 0xAB .adda .indexed off8 s

/-- `cpx`, indexed: opcode 0xAC (R511). -/
def execCpxInd (off8 : Byte) (s : State) : Host.Outcome State Fault Refusal :=
  driveByte 0xAC .cpx .indexed off8 s

/-- `lds`, indexed: opcode 0xAE (R512). -/
def execLdsInd (off8 : Byte) (s : State) : Host.Outcome State Fault Refusal :=
  driveByte 0xAE .lds .indexed off8 s

/-- `sts`, indexed: opcode 0xAF (R514). -/
def execStsInd (off8 : Byte) (s : State) : Host.Outcome State Fault Refusal :=
  driveByte 0xAF .sts .indexed off8 s

/-- `suba`, extended: opcode 0xB0 (R500). -/
def execSubaExt (ext16 : Word) (s : State) : Host.Outcome State Fault Refusal :=
  driveWord 0xB0 .suba .wordAddress ext16 s

/-- `cmpa`, extended: opcode 0xB1 (R501). -/
def execCmpaExt (ext16 : Word) (s : State) : Host.Outcome State Fault Refusal :=
  driveWord 0xB1 .cmpa .wordAddress ext16 s

/-- `sbca`, extended: opcode 0xB2 (R502). -/
def execSbcaExt (ext16 : Word) (s : State) : Host.Outcome State Fault Refusal :=
  driveWord 0xB2 .sbca .wordAddress ext16 s

/-- `subd`, extended: opcode 0xB3 (R503). -/
def execSubdExt (ext16 : Word) (s : State) : Host.Outcome State Fault Refusal :=
  driveWord 0xB3 .subd .wordAddress ext16 s

/-- `anda`, extended: opcode 0xB4 (R504). -/
def execAndaExt (ext16 : Word) (s : State) : Host.Outcome State Fault Refusal :=
  driveWord 0xB4 .anda .wordAddress ext16 s

/-- `bita`, extended: opcode 0xB5 (R505). -/
def execBitaExt (ext16 : Word) (s : State) : Host.Outcome State Fault Refusal :=
  driveWord 0xB5 .bita .wordAddress ext16 s

/-- `ldaa`, extended: opcode 0xB6 (R506). -/
def execLdaaExt (ext16 : Word) (s : State) : Host.Outcome State Fault Refusal :=
  driveWord 0xB6 .ldaa .wordAddress ext16 s

/-- `staa`, extended: opcode 0xB7 (R513). -/
def execStaaExt (ext16 : Word) (s : State) : Host.Outcome State Fault Refusal :=
  driveWord 0xB7 .staa .wordAddress ext16 s

/-- `eora`, extended: opcode 0xB8 (R507). -/
def execEoraExt (ext16 : Word) (s : State) : Host.Outcome State Fault Refusal :=
  driveWord 0xB8 .eora .wordAddress ext16 s

/-- `adca`, extended: opcode 0xB9 (R508). -/
def execAdcaExt (ext16 : Word) (s : State) : Host.Outcome State Fault Refusal :=
  driveWord 0xB9 .adca .wordAddress ext16 s

/-- `oraa`, extended: opcode 0xBA (R509). -/
def execOraaExt (ext16 : Word) (s : State) : Host.Outcome State Fault Refusal :=
  driveWord 0xBA .oraa .wordAddress ext16 s

/-- `adda`, extended: opcode 0xBB (R510). -/
def execAddaExt (ext16 : Word) (s : State) : Host.Outcome State Fault Refusal :=
  driveWord 0xBB .adda .wordAddress ext16 s

/-- `cpx`, extended: opcode 0xBC (R511). -/
def execCpxExt (ext16 : Word) (s : State) : Host.Outcome State Fault Refusal :=
  driveWord 0xBC .cpx .wordAddress ext16 s

/-- `lds`, extended: opcode 0xBE (R512). -/
def execLdsExt (ext16 : Word) (s : State) : Host.Outcome State Fault Refusal :=
  driveWord 0xBE .lds .wordAddress ext16 s

/-- `sts`, extended: opcode 0xBF (R514). -/
def execStsExt (ext16 : Word) (s : State) : Host.Outcome State Fault Refusal :=
  driveWord 0xBF .sts .wordAddress ext16 s

/-- `subb`, immediate: opcode 0xC0 (R515). -/
def execSubbImm (imm8 : Byte) (s : State) : Host.Outcome State Fault Refusal :=
  driveByte 0xC0 .subb .byteImmediate imm8 s

/-- `cmpb`, immediate: opcode 0xC1 (R516). -/
def execCmpbImm (imm8 : Byte) (s : State) : Host.Outcome State Fault Refusal :=
  driveByte 0xC1 .cmpb .byteImmediate imm8 s

/-- `sbcb`, immediate: opcode 0xC2 (R517). -/
def execSbcbImm (imm8 : Byte) (s : State) : Host.Outcome State Fault Refusal :=
  driveByte 0xC2 .sbcb .byteImmediate imm8 s

/-- `addd`, immediate: opcode 0xC3 (R518). -/
def execAdddImm (imm16 : Word) (s : State) : Host.Outcome State Fault Refusal :=
  driveWord 0xC3 .addd .wordImmediate imm16 s

/-- `andb`, immediate: opcode 0xC4 (R519). -/
def execAndbImm (imm8 : Byte) (s : State) : Host.Outcome State Fault Refusal :=
  driveByte 0xC4 .andb .byteImmediate imm8 s

/-- `bitb`, immediate: opcode 0xC5 (R520). -/
def execBitbImm (imm8 : Byte) (s : State) : Host.Outcome State Fault Refusal :=
  driveByte 0xC5 .bitb .byteImmediate imm8 s

/-- `ldab`, immediate: opcode 0xC6 (R521). -/
def execLdabImm (imm8 : Byte) (s : State) : Host.Outcome State Fault Refusal :=
  driveByte 0xC6 .ldab .byteImmediate imm8 s

/-- `eorb`, immediate: opcode 0xC8 (R522). -/
def execEorbImm (imm8 : Byte) (s : State) : Host.Outcome State Fault Refusal :=
  driveByte 0xC8 .eorb .byteImmediate imm8 s

/-- `adcb`, immediate: opcode 0xC9 (R523). -/
def execAdcbImm (imm8 : Byte) (s : State) : Host.Outcome State Fault Refusal :=
  driveByte 0xC9 .adcb .byteImmediate imm8 s

/-- `orab`, immediate: opcode 0xCA (R524). -/
def execOrabImm (imm8 : Byte) (s : State) : Host.Outcome State Fault Refusal :=
  driveByte 0xCA .orab .byteImmediate imm8 s

/-- `addb`, immediate: opcode 0xCB (R525). -/
def execAddbImm (imm8 : Byte) (s : State) : Host.Outcome State Fault Refusal :=
  driveByte 0xCB .addb .byteImmediate imm8 s

/-- `ldd`, immediate: opcode 0xCC (R526). -/
def execLddImm (imm16 : Word) (s : State) : Host.Outcome State Fault Refusal :=
  driveWord 0xCC .ldd .wordImmediate imm16 s

/-- `ldx`, immediate: opcode 0xCE (R527). -/
def execLdxImm (imm16 : Word) (s : State) : Host.Outcome State Fault Refusal :=
  driveWord 0xCE .ldx .wordImmediate imm16 s

/-- `subb`, direct: opcode 0xD0 (R515). -/
def execSubbDir (dir8 : Byte) (s : State) : Host.Outcome State Fault Refusal :=
  driveByte 0xD0 .subb .byteAddress dir8 s

/-- `cmpb`, direct: opcode 0xD1 (R516). -/
def execCmpbDir (dir8 : Byte) (s : State) : Host.Outcome State Fault Refusal :=
  driveByte 0xD1 .cmpb .byteAddress dir8 s

/-- `sbcb`, direct: opcode 0xD2 (R517). -/
def execSbcbDir (dir8 : Byte) (s : State) : Host.Outcome State Fault Refusal :=
  driveByte 0xD2 .sbcb .byteAddress dir8 s

/-- `addd`, direct: opcode 0xD3 (R518). -/
def execAdddDir (dir8 : Byte) (s : State) : Host.Outcome State Fault Refusal :=
  driveByte 0xD3 .addd .byteAddress dir8 s

/-- `andb`, direct: opcode 0xD4 (R519). -/
def execAndbDir (dir8 : Byte) (s : State) : Host.Outcome State Fault Refusal :=
  driveByte 0xD4 .andb .byteAddress dir8 s

/-- `bitb`, direct: opcode 0xD5 (R520). -/
def execBitbDir (dir8 : Byte) (s : State) : Host.Outcome State Fault Refusal :=
  driveByte 0xD5 .bitb .byteAddress dir8 s

/-- `ldab`, direct: opcode 0xD6 (R521). -/
def execLdabDir (dir8 : Byte) (s : State) : Host.Outcome State Fault Refusal :=
  driveByte 0xD6 .ldab .byteAddress dir8 s

/-- `stab`, direct: opcode 0xD7 (R528). -/
def execStabDir (dir8 : Byte) (s : State) : Host.Outcome State Fault Refusal :=
  driveByte 0xD7 .stab .byteAddress dir8 s

/-- `eorb`, direct: opcode 0xD8 (R522). -/
def execEorbDir (dir8 : Byte) (s : State) : Host.Outcome State Fault Refusal :=
  driveByte 0xD8 .eorb .byteAddress dir8 s

/-- `adcb`, direct: opcode 0xD9 (R523). -/
def execAdcbDir (dir8 : Byte) (s : State) : Host.Outcome State Fault Refusal :=
  driveByte 0xD9 .adcb .byteAddress dir8 s

/-- `orab`, direct: opcode 0xDA (R524). -/
def execOrabDir (dir8 : Byte) (s : State) : Host.Outcome State Fault Refusal :=
  driveByte 0xDA .orab .byteAddress dir8 s

/-- `addb`, direct: opcode 0xDB (R525). -/
def execAddbDir (dir8 : Byte) (s : State) : Host.Outcome State Fault Refusal :=
  driveByte 0xDB .addb .byteAddress dir8 s

/-- `ldd`, direct: opcode 0xDC (R526). -/
def execLddDir (dir8 : Byte) (s : State) : Host.Outcome State Fault Refusal :=
  driveByte 0xDC .ldd .byteAddress dir8 s

/-- `std`, direct: opcode 0xDD (R529). -/
def execStdDir (dir8 : Byte) (s : State) : Host.Outcome State Fault Refusal :=
  driveByte 0xDD .std .byteAddress dir8 s

/-- `ldx`, direct: opcode 0xDE (R527). -/
def execLdxDir (dir8 : Byte) (s : State) : Host.Outcome State Fault Refusal :=
  driveByte 0xDE .ldx .byteAddress dir8 s

/-- `stx`, direct: opcode 0xDF (R530). -/
def execStxDir (dir8 : Byte) (s : State) : Host.Outcome State Fault Refusal :=
  driveByte 0xDF .stx .byteAddress dir8 s

/-- `subb`, indexed: opcode 0xE0 (R515). -/
def execSubbInd (off8 : Byte) (s : State) : Host.Outcome State Fault Refusal :=
  driveByte 0xE0 .subb .indexed off8 s

/-- `cmpb`, indexed: opcode 0xE1 (R516). -/
def execCmpbInd (off8 : Byte) (s : State) : Host.Outcome State Fault Refusal :=
  driveByte 0xE1 .cmpb .indexed off8 s

/-- `sbcb`, indexed: opcode 0xE2 (R517). -/
def execSbcbInd (off8 : Byte) (s : State) : Host.Outcome State Fault Refusal :=
  driveByte 0xE2 .sbcb .indexed off8 s

/-- `addd`, indexed: opcode 0xE3 (R518). -/
def execAdddInd (off8 : Byte) (s : State) : Host.Outcome State Fault Refusal :=
  driveByte 0xE3 .addd .indexed off8 s

/-- `andb`, indexed: opcode 0xE4 (R519). -/
def execAndbInd (off8 : Byte) (s : State) : Host.Outcome State Fault Refusal :=
  driveByte 0xE4 .andb .indexed off8 s

/-- `bitb`, indexed: opcode 0xE5 (R520). -/
def execBitbInd (off8 : Byte) (s : State) : Host.Outcome State Fault Refusal :=
  driveByte 0xE5 .bitb .indexed off8 s

/-- `ldab`, indexed: opcode 0xE6 (R521). -/
def execLdabInd (off8 : Byte) (s : State) : Host.Outcome State Fault Refusal :=
  driveByte 0xE6 .ldab .indexed off8 s

/-- `stab`, indexed: opcode 0xE7 (R528). -/
def execStabInd (off8 : Byte) (s : State) : Host.Outcome State Fault Refusal :=
  driveByte 0xE7 .stab .indexed off8 s

/-- `eorb`, indexed: opcode 0xE8 (R522). -/
def execEorbInd (off8 : Byte) (s : State) : Host.Outcome State Fault Refusal :=
  driveByte 0xE8 .eorb .indexed off8 s

/-- `adcb`, indexed: opcode 0xE9 (R523). -/
def execAdcbInd (off8 : Byte) (s : State) : Host.Outcome State Fault Refusal :=
  driveByte 0xE9 .adcb .indexed off8 s

/-- `orab`, indexed: opcode 0xEA (R524). -/
def execOrabInd (off8 : Byte) (s : State) : Host.Outcome State Fault Refusal :=
  driveByte 0xEA .orab .indexed off8 s

/-- `addb`, indexed: opcode 0xEB (R525). -/
def execAddbInd (off8 : Byte) (s : State) : Host.Outcome State Fault Refusal :=
  driveByte 0xEB .addb .indexed off8 s

/-- `ldd`, indexed: opcode 0xEC (R526). -/
def execLddInd (off8 : Byte) (s : State) : Host.Outcome State Fault Refusal :=
  driveByte 0xEC .ldd .indexed off8 s

/-- `std`, indexed: opcode 0xED (R529). -/
def execStdInd (off8 : Byte) (s : State) : Host.Outcome State Fault Refusal :=
  driveByte 0xED .std .indexed off8 s

/-- `ldx`, indexed: opcode 0xEE (R527). -/
def execLdxInd (off8 : Byte) (s : State) : Host.Outcome State Fault Refusal :=
  driveByte 0xEE .ldx .indexed off8 s

/-- `stx`, indexed: opcode 0xEF (R530). -/
def execStxInd (off8 : Byte) (s : State) : Host.Outcome State Fault Refusal :=
  driveByte 0xEF .stx .indexed off8 s

/-- `subb`, extended: opcode 0xF0 (R515). -/
def execSubbExt (ext16 : Word) (s : State) : Host.Outcome State Fault Refusal :=
  driveWord 0xF0 .subb .wordAddress ext16 s

/-- `cmpb`, extended: opcode 0xF1 (R516). -/
def execCmpbExt (ext16 : Word) (s : State) : Host.Outcome State Fault Refusal :=
  driveWord 0xF1 .cmpb .wordAddress ext16 s

/-- `sbcb`, extended: opcode 0xF2 (R517). -/
def execSbcbExt (ext16 : Word) (s : State) : Host.Outcome State Fault Refusal :=
  driveWord 0xF2 .sbcb .wordAddress ext16 s

/-- `addd`, extended: opcode 0xF3 (R518). -/
def execAdddExt (ext16 : Word) (s : State) : Host.Outcome State Fault Refusal :=
  driveWord 0xF3 .addd .wordAddress ext16 s

/-- `andb`, extended: opcode 0xF4 (R519). -/
def execAndbExt (ext16 : Word) (s : State) : Host.Outcome State Fault Refusal :=
  driveWord 0xF4 .andb .wordAddress ext16 s

/-- `bitb`, extended: opcode 0xF5 (R520). -/
def execBitbExt (ext16 : Word) (s : State) : Host.Outcome State Fault Refusal :=
  driveWord 0xF5 .bitb .wordAddress ext16 s

/-- `ldab`, extended: opcode 0xF6 (R521). -/
def execLdabExt (ext16 : Word) (s : State) : Host.Outcome State Fault Refusal :=
  driveWord 0xF6 .ldab .wordAddress ext16 s

/-- `stab`, extended: opcode 0xF7 (R528). -/
def execStabExt (ext16 : Word) (s : State) : Host.Outcome State Fault Refusal :=
  driveWord 0xF7 .stab .wordAddress ext16 s

/-- `eorb`, extended: opcode 0xF8 (R522). -/
def execEorbExt (ext16 : Word) (s : State) : Host.Outcome State Fault Refusal :=
  driveWord 0xF8 .eorb .wordAddress ext16 s

/-- `adcb`, extended: opcode 0xF9 (R523). -/
def execAdcbExt (ext16 : Word) (s : State) : Host.Outcome State Fault Refusal :=
  driveWord 0xF9 .adcb .wordAddress ext16 s

/-- `orab`, extended: opcode 0xFA (R524). -/
def execOrabExt (ext16 : Word) (s : State) : Host.Outcome State Fault Refusal :=
  driveWord 0xFA .orab .wordAddress ext16 s

/-- `addb`, extended: opcode 0xFB (R525). -/
def execAddbExt (ext16 : Word) (s : State) : Host.Outcome State Fault Refusal :=
  driveWord 0xFB .addb .wordAddress ext16 s

/-- `ldd`, extended: opcode 0xFC (R526). -/
def execLddExt (ext16 : Word) (s : State) : Host.Outcome State Fault Refusal :=
  driveWord 0xFC .ldd .wordAddress ext16 s

/-- `std`, extended: opcode 0xFD (R529). -/
def execStdExt (ext16 : Word) (s : State) : Host.Outcome State Fault Refusal :=
  driveWord 0xFD .std .wordAddress ext16 s

/-- `ldx`, extended: opcode 0xFE (R527). -/
def execLdxExt (ext16 : Word) (s : State) : Host.Outcome State Fault Refusal :=
  driveWord 0xFE .ldx .wordAddress ext16 s

end Sys2Proof.Machine
end

