-- ==== Sys2Proof/Machine/ControlTransfer.lean ====
section
/-! DEFINITION. The 22 rows of 41_control_transfer.md (R310 to R328): the relative branches, `jmp`, `bsr` and `jsr`.  Each meaning is the
pseudocode of its rule: it drives the outputs of its row, or `SHORT` where the window holds too few bytes. -/

namespace Sys2Proof.Machine

/-- `bra`: opcode 0x20 (R310). -/
def execBra (rel8 : Byte) (s : State) : Host.Outcome State Fault Refusal :=
  driveByte 0x20 .bra .byteAddress rel8 s

/-- `brn`: opcode 0x21 (R311). -/
def execBrn (rel8 : Byte) (s : State) : Host.Outcome State Fault Refusal :=
  driveByte 0x21 .brn .byteAddress rel8 s

/-- `bhi`: opcode 0x22 (R312). -/
def execBhi (rel8 : Byte) (s : State) : Host.Outcome State Fault Refusal :=
  driveByte 0x22 .bhi .byteAddress rel8 s

/-- `bls`: opcode 0x23 (R313). -/
def execBls (rel8 : Byte) (s : State) : Host.Outcome State Fault Refusal :=
  driveByte 0x23 .bls .byteAddress rel8 s

/-- `bcc`: opcode 0x24 (R314). -/
def execBcc (rel8 : Byte) (s : State) : Host.Outcome State Fault Refusal :=
  driveByte 0x24 .bcc .byteAddress rel8 s

/-- `bcs`: opcode 0x25 (R315). -/
def execBcs (rel8 : Byte) (s : State) : Host.Outcome State Fault Refusal :=
  driveByte 0x25 .bcs .byteAddress rel8 s

/-- `bne`: opcode 0x26 (R316). -/
def execBne (rel8 : Byte) (s : State) : Host.Outcome State Fault Refusal :=
  driveByte 0x26 .bne .byteAddress rel8 s

/-- `beq`: opcode 0x27 (R317). -/
def execBeq (rel8 : Byte) (s : State) : Host.Outcome State Fault Refusal :=
  driveByte 0x27 .beq .byteAddress rel8 s

/-- `bvc`: opcode 0x28 (R318). -/
def execBvc (rel8 : Byte) (s : State) : Host.Outcome State Fault Refusal :=
  driveByte 0x28 .bvc .byteAddress rel8 s

/-- `bvs`: opcode 0x29 (R319). -/
def execBvs (rel8 : Byte) (s : State) : Host.Outcome State Fault Refusal :=
  driveByte 0x29 .bvs .byteAddress rel8 s

/-- `bpl`: opcode 0x2A (R320). -/
def execBpl (rel8 : Byte) (s : State) : Host.Outcome State Fault Refusal :=
  driveByte 0x2A .bpl .byteAddress rel8 s

/-- `bmi`: opcode 0x2B (R321). -/
def execBmi (rel8 : Byte) (s : State) : Host.Outcome State Fault Refusal :=
  driveByte 0x2B .bmi .byteAddress rel8 s

/-- `bge`: opcode 0x2C (R322). -/
def execBge (rel8 : Byte) (s : State) : Host.Outcome State Fault Refusal :=
  driveByte 0x2C .bge .byteAddress rel8 s

/-- `blt`: opcode 0x2D (R323). -/
def execBlt (rel8 : Byte) (s : State) : Host.Outcome State Fault Refusal :=
  driveByte 0x2D .blt .byteAddress rel8 s

/-- `bgt`: opcode 0x2E (R324). -/
def execBgt (rel8 : Byte) (s : State) : Host.Outcome State Fault Refusal :=
  driveByte 0x2E .bgt .byteAddress rel8 s

/-- `ble`: opcode 0x2F (R325). -/
def execBle (rel8 : Byte) (s : State) : Host.Outcome State Fault Refusal :=
  driveByte 0x2F .ble .byteAddress rel8 s

/-- `jmp`, indexed: opcode 0x6E (R326). -/
def execJmpInd (off8 : Byte) (s : State) : Host.Outcome State Fault Refusal :=
  driveByte 0x6E .jmp .indexed off8 s

/-- `jmp`, extended: opcode 0x7E (R326). -/
def execJmpExt (ext16 : Word) (s : State) : Host.Outcome State Fault Refusal :=
  driveWord 0x7E .jmp .wordAddress ext16 s

/-- `bsr`: opcode 0x8D (R327). -/
def execBsr (rel8 : Byte) (s : State) : Host.Outcome State Fault Refusal :=
  driveByte 0x8D .bsr .byteAddress rel8 s

/-- `jsr`, direct: opcode 0x9D (R328). -/
def execJsrDir (dir8 : Byte) (s : State) : Host.Outcome State Fault Refusal :=
  driveByte 0x9D .jsr .byteAddress dir8 s

/-- `jsr`, indexed: opcode 0xAD (R328). -/
def execJsrInd (off8 : Byte) (s : State) : Host.Outcome State Fault Refusal :=
  driveByte 0xAD .jsr .indexed off8 s

/-- `jsr`, extended: opcode 0xBD (R328). -/
def execJsrExt (ext16 : Word) (s : State) : Host.Outcome State Fault Refusal :=
  driveWord 0xBD .jsr .wordAddress ext16 s

end Sys2Proof.Machine
end

