-- ==== Sys2Proof/Machine/Inherent.lean ====
section
/-! DEFINITION. The 59 rows of 40_inherent.md (R200 to R258): shape `None`, and the three rows `tsx`, `pula`, `rts` that the
table gives the shape `ByteAddress` (30_encoding.md R94).  Each meaning is the
pseudocode of its rule: it drives the outputs of its row, or `SHORT` where the window holds too few bytes. -/

namespace Sys2Proof.Machine

/-- `nop`: opcode 0x01 (R200). -/
def execNop (s : State) : Host.Outcome State Fault Refusal :=
  driveNone 0x01 .nop s

/-- `lsrd`: opcode 0x04 (R201). -/
def execLsrd (q : Option Byte) (s : State) : Host.Outcome State Fault Refusal :=
  driveQuirkable 0x04 .lsrd q s

/-- `asld`: opcode 0x05 (R202). -/
def execAsld (q : Option Byte) (s : State) : Host.Outcome State Fault Refusal :=
  driveQuirkable 0x05 .asld q s

/-- `tap`: opcode 0x06 (R203). -/
def execTap (q : Option Byte) (s : State) : Host.Outcome State Fault Refusal :=
  driveQuirkable 0x06 .tap q s

/-- `tpa`: opcode 0x07 (R204). -/
def execTpa (q : Option Byte) (s : State) : Host.Outcome State Fault Refusal :=
  driveQuirkable 0x07 .tpa q s

/-- `inx`: opcode 0x08 (R205). -/
def execInx (q : Option Byte) (s : State) : Host.Outcome State Fault Refusal :=
  driveQuirkable 0x08 .inx q s

/-- `dex`: opcode 0x09 (R206). -/
def execDex (q : Option Byte) (s : State) : Host.Outcome State Fault Refusal :=
  driveQuirkable 0x09 .dex q s

/-- `clv`: opcode 0x0A (R207). -/
def execClv (q : Option Byte) (s : State) : Host.Outcome State Fault Refusal :=
  driveQuirkable 0x0A .clv q s

/-- `sev`: opcode 0x0B (R208). -/
def execSev (q : Option Byte) (s : State) : Host.Outcome State Fault Refusal :=
  driveQuirkable 0x0B .sev q s

/-- `clc`: opcode 0x0C (R209). -/
def execClc (q : Option Byte) (s : State) : Host.Outcome State Fault Refusal :=
  driveQuirkable 0x0C .clc q s

/-- `sec`: opcode 0x0D (R210). -/
def execSec (q : Option Byte) (s : State) : Host.Outcome State Fault Refusal :=
  driveQuirkable 0x0D .sec q s

/-- `cli`: opcode 0x0E (R211). -/
def execCli (q : Option Byte) (s : State) : Host.Outcome State Fault Refusal :=
  driveQuirkable 0x0E .cli q s

/-- `sei`: opcode 0x0F (R212). -/
def execSei (q : Option Byte) (s : State) : Host.Outcome State Fault Refusal :=
  driveQuirkable 0x0F .sei q s

/-- `sba`: opcode 0x10 (R213). -/
def execSba (q : Option Byte) (s : State) : Host.Outcome State Fault Refusal :=
  driveQuirkable 0x10 .sba q s

/-- `cba`: opcode 0x11 (R214). -/
def execCba (q : Option Byte) (s : State) : Host.Outcome State Fault Refusal :=
  driveQuirkable 0x11 .cba q s

/-- `tab`: opcode 0x16 (R215). -/
def execTab (q : Option Byte) (s : State) : Host.Outcome State Fault Refusal :=
  driveQuirkable 0x16 .tab q s

/-- `tba`: opcode 0x17 (R216). -/
def execTba (q : Option Byte) (s : State) : Host.Outcome State Fault Refusal :=
  driveQuirkable 0x17 .tba q s

/-- `xgdx`: opcode 0x18 (R217). -/
def execXgdx (q : Option Byte) (s : State) : Host.Outcome State Fault Refusal :=
  driveQuirkable 0x18 .xgdx q s

/-- `daa`: opcode 0x19 (R218). -/
def execDaa (q : Option Byte) (s : State) : Host.Outcome State Fault Refusal :=
  driveQuirkable 0x19 .daa q s

/-- `slp`: opcode 0x1A (R219). -/
def execSlp (q : Option Byte) (s : State) : Host.Outcome State Fault Refusal :=
  driveQuirkable 0x1A .slp q s

/-- `aba`: opcode 0x1B (R220). -/
def execAba (q : Option Byte) (s : State) : Host.Outcome State Fault Refusal :=
  driveQuirkable 0x1B .aba q s

/-- `tsx`: opcode 0x30 (R221). -/
def execTsx (b : Byte) (s : State) : Host.Outcome State Fault Refusal :=
  driveByte 0x30 .tsx .byteAddress b s

/-- `ins`: opcode 0x31 (R222). -/
def execIns (q : Option Byte) (s : State) : Host.Outcome State Fault Refusal :=
  driveQuirkable 0x31 .ins q s

/-- `pula`: opcode 0x32 (R223). -/
def execPula (b : Byte) (s : State) : Host.Outcome State Fault Refusal :=
  driveByte 0x32 .pula .byteAddress b s

/-- `pulb`: opcode 0x33 (R224). -/
def execPulb (q : Option Byte) (s : State) : Host.Outcome State Fault Refusal :=
  driveQuirkable 0x33 .pulb q s

/-- `des`: opcode 0x34 (R225). -/
def execDes (q : Option Byte) (s : State) : Host.Outcome State Fault Refusal :=
  driveQuirkable 0x34 .des q s

/-- `txs`: opcode 0x35 (R226). -/
def execTxs (q : Option Byte) (s : State) : Host.Outcome State Fault Refusal :=
  driveQuirkable 0x35 .txs q s

/-- `psha`: opcode 0x36 (R227). -/
def execPsha (q : Option Byte) (s : State) : Host.Outcome State Fault Refusal :=
  driveQuirkable 0x36 .psha q s

/-- `pshb`: opcode 0x37 (R228). -/
def execPshb (q : Option Byte) (s : State) : Host.Outcome State Fault Refusal :=
  driveQuirkable 0x37 .pshb q s

/-- `pulx`: opcode 0x38 (R229). -/
def execPulx (q : Option Byte) (s : State) : Host.Outcome State Fault Refusal :=
  driveQuirkable 0x38 .pulx q s

/-- `rts`: opcode 0x39 (R230). -/
def execRts (b : Byte) (s : State) : Host.Outcome State Fault Refusal :=
  driveByte 0x39 .rts .byteAddress b s

/-- `abx`: opcode 0x3A (R231). -/
def execAbx (q : Option Byte) (s : State) : Host.Outcome State Fault Refusal :=
  driveQuirkable 0x3A .abx q s

/-- `rti`: opcode 0x3B (R232). -/
def execRti (q : Option Byte) (s : State) : Host.Outcome State Fault Refusal :=
  driveQuirkable 0x3B .rti q s

/-- `pshx`: opcode 0x3C (R233). -/
def execPshx (q : Option Byte) (s : State) : Host.Outcome State Fault Refusal :=
  driveQuirkable 0x3C .pshx q s

/-- `mul`: opcode 0x3D (R234). -/
def execMul (q : Option Byte) (s : State) : Host.Outcome State Fault Refusal :=
  driveQuirkable 0x3D .mul q s

/-- `wai`: opcode 0x3E (R235). -/
def execWai (q : Option Byte) (s : State) : Host.Outcome State Fault Refusal :=
  driveQuirkable 0x3E .wai q s

/-- `swi`: opcode 0x3F (R236). -/
def execSwi (q : Option Byte) (s : State) : Host.Outcome State Fault Refusal :=
  driveQuirkable 0x3F .swi q s

/-- `nega`: opcode 0x40 (R237). -/
def execNega (s : State) : Host.Outcome State Fault Refusal :=
  driveNone 0x40 .nega s

/-- `coma`: opcode 0x43 (R238). -/
def execComa (s : State) : Host.Outcome State Fault Refusal :=
  driveNone 0x43 .coma s

/-- `lsra`: opcode 0x44 (R239). -/
def execLsra (s : State) : Host.Outcome State Fault Refusal :=
  driveNone 0x44 .lsra s

/-- `rora`: opcode 0x46 (R240). -/
def execRora (s : State) : Host.Outcome State Fault Refusal :=
  driveNone 0x46 .rora s

/-- `asra`: opcode 0x47 (R241). -/
def execAsra (s : State) : Host.Outcome State Fault Refusal :=
  driveNone 0x47 .asra s

/-- `asla`: opcode 0x48 (R242). -/
def execAsla (s : State) : Host.Outcome State Fault Refusal :=
  driveNone 0x48 .asla s

/-- `rola`: opcode 0x49 (R243). -/
def execRola (s : State) : Host.Outcome State Fault Refusal :=
  driveNone 0x49 .rola s

/-- `deca`: opcode 0x4A (R244). -/
def execDeca (s : State) : Host.Outcome State Fault Refusal :=
  driveNone 0x4A .deca s

/-- `inca`: opcode 0x4C (R245). -/
def execInca (s : State) : Host.Outcome State Fault Refusal :=
  driveNone 0x4C .inca s

/-- `tsta`: opcode 0x4D (R246). -/
def execTsta (s : State) : Host.Outcome State Fault Refusal :=
  driveNone 0x4D .tsta s

/-- `clra`: opcode 0x4F (R247). -/
def execClra (s : State) : Host.Outcome State Fault Refusal :=
  driveNone 0x4F .clra s

/-- `negb`: opcode 0x50 (R248). -/
def execNegb (s : State) : Host.Outcome State Fault Refusal :=
  driveNone 0x50 .negb s

/-- `comb`: opcode 0x53 (R249). -/
def execComb (s : State) : Host.Outcome State Fault Refusal :=
  driveNone 0x53 .comb s

/-- `lsrb`: opcode 0x54 (R250). -/
def execLsrb (s : State) : Host.Outcome State Fault Refusal :=
  driveNone 0x54 .lsrb s

/-- `rorb`: opcode 0x56 (R251). -/
def execRorb (s : State) : Host.Outcome State Fault Refusal :=
  driveNone 0x56 .rorb s

/-- `asrb`: opcode 0x57 (R252). -/
def execAsrb (s : State) : Host.Outcome State Fault Refusal :=
  driveNone 0x57 .asrb s

/-- `aslb`: opcode 0x58 (R253). -/
def execAslb (s : State) : Host.Outcome State Fault Refusal :=
  driveNone 0x58 .aslb s

/-- `rolb`: opcode 0x59 (R254). -/
def execRolb (s : State) : Host.Outcome State Fault Refusal :=
  driveNone 0x59 .rolb s

/-- `decb`: opcode 0x5A (R255). -/
def execDecb (s : State) : Host.Outcome State Fault Refusal :=
  driveNone 0x5A .decb s

/-- `incb`: opcode 0x5C (R256). -/
def execIncb (s : State) : Host.Outcome State Fault Refusal :=
  driveNone 0x5C .incb s

/-- `tstb`: opcode 0x5D (R257). -/
def execTstb (s : State) : Host.Outcome State Fault Refusal :=
  driveNone 0x5D .tstb s

/-- `clrb`: opcode 0x5F (R258). -/
def execClrb (s : State) : Host.Outcome State Fault Refusal :=
  driveNone 0x5F .clrb s

end Sys2Proof.Machine
end

