-- ==== Sys2Proof/Machine/MemoryRmw.lean ====
section
/-! DEFINITION. The 30 rows of 42_memory_rmw.md (R400 to R414): the memory read-modify-write rows and `aim`, `oim`, `eim`, `tim`.  Each meaning is the
pseudocode of its rule: it drives the outputs of its row, or `SHORT` where the window holds too few bytes. -/

namespace Sys2Proof.Machine

/-- `neg`, indexed: opcode 0x60 (R400). -/
def execNegInd (off8 : Byte) (s : State) : Host.Outcome State Fault Refusal :=
  driveByte 0x60 .neg .indexed off8 s

/-- `aim`, immediate and indexed: opcode 0x61 (R401). -/
def execAimImmInd (imm8 off8 : Byte) (s : State) : Host.Outcome State Fault Refusal :=
  drivePair 0x61 .aim .immediateIndexed imm8 off8 s

/-- `oim`, immediate and indexed: opcode 0x62 (R402). -/
def execOimImmInd (imm8 off8 : Byte) (s : State) : Host.Outcome State Fault Refusal :=
  drivePair 0x62 .oim .immediateIndexed imm8 off8 s

/-- `com`, indexed: opcode 0x63 (R403). -/
def execComInd (off8 : Byte) (s : State) : Host.Outcome State Fault Refusal :=
  driveByte 0x63 .com .indexed off8 s

/-- `lsr`, indexed: opcode 0x64 (R404). -/
def execLsrInd (off8 : Byte) (s : State) : Host.Outcome State Fault Refusal :=
  driveByte 0x64 .lsr .indexed off8 s

/-- `eim`, immediate and indexed: opcode 0x65 (R405). -/
def execEimImmInd (imm8 off8 : Byte) (s : State) : Host.Outcome State Fault Refusal :=
  drivePair 0x65 .eim .immediateIndexed imm8 off8 s

/-- `ror`, indexed: opcode 0x66 (R406). -/
def execRorInd (off8 : Byte) (s : State) : Host.Outcome State Fault Refusal :=
  driveByte 0x66 .ror .indexed off8 s

/-- `asr`, indexed: opcode 0x67 (R407). -/
def execAsrInd (off8 : Byte) (s : State) : Host.Outcome State Fault Refusal :=
  driveByte 0x67 .asr .indexed off8 s

/-- `asl`, indexed: opcode 0x68 (R408). -/
def execAslInd (off8 : Byte) (s : State) : Host.Outcome State Fault Refusal :=
  driveByte 0x68 .asl .indexed off8 s

/-- `rol`, indexed: opcode 0x69 (R409). -/
def execRolInd (off8 : Byte) (s : State) : Host.Outcome State Fault Refusal :=
  driveByte 0x69 .rol .indexed off8 s

/-- `dec`, indexed: opcode 0x6A (R410). -/
def execDecInd (off8 : Byte) (s : State) : Host.Outcome State Fault Refusal :=
  driveByte 0x6A .dec .indexed off8 s

/-- `tim`, immediate and indexed: opcode 0x6B (R411). -/
def execTimImmInd (imm8 off8 : Byte) (s : State) : Host.Outcome State Fault Refusal :=
  drivePair 0x6B .tim .immediateIndexed imm8 off8 s

/-- `inc`, indexed: opcode 0x6C (R412). -/
def execIncInd (off8 : Byte) (s : State) : Host.Outcome State Fault Refusal :=
  driveByte 0x6C .inc .indexed off8 s

/-- `tst`, indexed: opcode 0x6D (R413). -/
def execTstInd (off8 : Byte) (s : State) : Host.Outcome State Fault Refusal :=
  driveByte 0x6D .tst .indexed off8 s

/-- `clr`, indexed: opcode 0x6F (R414). -/
def execClrInd (off8 : Byte) (s : State) : Host.Outcome State Fault Refusal :=
  driveByte 0x6F .clr .indexed off8 s

/-- `neg`, extended: opcode 0x70 (R400). -/
def execNegExt (ext16 : Word) (s : State) : Host.Outcome State Fault Refusal :=
  driveWord 0x70 .neg .wordAddress ext16 s

/-- `aim`, immediate and direct: opcode 0x71 (R401). -/
def execAimImmDir (imm8 dir8 : Byte) (s : State) : Host.Outcome State Fault Refusal :=
  drivePair 0x71 .aim .directMemory imm8 dir8 s

/-- `oim`, immediate and direct: opcode 0x72 (R402). -/
def execOimImmDir (imm8 dir8 : Byte) (s : State) : Host.Outcome State Fault Refusal :=
  drivePair 0x72 .oim .directMemory imm8 dir8 s

/-- `com`, extended: opcode 0x73 (R403). -/
def execComExt (ext16 : Word) (s : State) : Host.Outcome State Fault Refusal :=
  driveWord 0x73 .com .wordAddress ext16 s

/-- `lsr`, extended: opcode 0x74 (R404). -/
def execLsrExt (ext16 : Word) (s : State) : Host.Outcome State Fault Refusal :=
  driveWord 0x74 .lsr .wordAddress ext16 s

/-- `eim`, immediate and direct: opcode 0x75 (R405). -/
def execEimImmDir (imm8 dir8 : Byte) (s : State) : Host.Outcome State Fault Refusal :=
  drivePair 0x75 .eim .directMemory imm8 dir8 s

/-- `ror`, extended: opcode 0x76 (R406). -/
def execRorExt (ext16 : Word) (s : State) : Host.Outcome State Fault Refusal :=
  driveWord 0x76 .ror .wordAddress ext16 s

/-- `asr`, extended: opcode 0x77 (R407). -/
def execAsrExt (ext16 : Word) (s : State) : Host.Outcome State Fault Refusal :=
  driveWord 0x77 .asr .wordAddress ext16 s

/-- `asl`, extended: opcode 0x78 (R408). -/
def execAslExt (ext16 : Word) (s : State) : Host.Outcome State Fault Refusal :=
  driveWord 0x78 .asl .wordAddress ext16 s

/-- `rol`, extended: opcode 0x79 (R409). -/
def execRolExt (ext16 : Word) (s : State) : Host.Outcome State Fault Refusal :=
  driveWord 0x79 .rol .wordAddress ext16 s

/-- `dec`, extended: opcode 0x7A (R410). -/
def execDecExt (ext16 : Word) (s : State) : Host.Outcome State Fault Refusal :=
  driveWord 0x7A .dec .wordAddress ext16 s

/-- `tim`, immediate and direct: opcode 0x7B (R411). -/
def execTimImmDir (imm8 dir8 : Byte) (s : State) : Host.Outcome State Fault Refusal :=
  drivePair 0x7B .tim .directMemory imm8 dir8 s

/-- `inc`, extended: opcode 0x7C (R412). -/
def execIncExt (ext16 : Word) (s : State) : Host.Outcome State Fault Refusal :=
  driveWord 0x7C .inc .wordAddress ext16 s

/-- `tst`, extended: opcode 0x7D (R413). -/
def execTstExt (ext16 : Word) (s : State) : Host.Outcome State Fault Refusal :=
  driveWord 0x7D .tst .wordAddress ext16 s

/-- `clr`, extended: opcode 0x7F (R414). -/
def execClrExt (ext16 : Word) (s : State) : Host.Outcome State Fault Refusal :=
  driveWord 0x7F .clr .wordAddress ext16 s

end Sys2Proof.Machine
end

