-- ==== Sys2Proof/Machine/Dispatch.lean ====
section
/-! DEFINITION. The dispatch of an instruction to its meaning: one arm per constructor of `Instr`. -/

namespace Sys2Proof.Machine

def exec (i : Instr) (s : State) : Host.Outcome State Fault Refusal :=
  match i with
  | .nop => Sys2Proof.Machine.execNop s
  | .lsrd q => Sys2Proof.Machine.execLsrd q s
  | .asld q => Sys2Proof.Machine.execAsld q s
  | .tap q => Sys2Proof.Machine.execTap q s
  | .tpa q => Sys2Proof.Machine.execTpa q s
  | .inx q => Sys2Proof.Machine.execInx q s
  | .dex q => Sys2Proof.Machine.execDex q s
  | .clv q => Sys2Proof.Machine.execClv q s
  | .sev q => Sys2Proof.Machine.execSev q s
  | .clc q => Sys2Proof.Machine.execClc q s
  | .sec q => Sys2Proof.Machine.execSec q s
  | .cli q => Sys2Proof.Machine.execCli q s
  | .sei q => Sys2Proof.Machine.execSei q s
  | .sba q => Sys2Proof.Machine.execSba q s
  | .cba q => Sys2Proof.Machine.execCba q s
  | .tab q => Sys2Proof.Machine.execTab q s
  | .tba q => Sys2Proof.Machine.execTba q s
  | .xgdx q => Sys2Proof.Machine.execXgdx q s
  | .daa q => Sys2Proof.Machine.execDaa q s
  | .slp q => Sys2Proof.Machine.execSlp q s
  | .aba q => Sys2Proof.Machine.execAba q s
  | .bra rel8 => Sys2Proof.Machine.execBra rel8 s
  | .brn rel8 => Sys2Proof.Machine.execBrn rel8 s
  | .bhi rel8 => Sys2Proof.Machine.execBhi rel8 s
  | .bls rel8 => Sys2Proof.Machine.execBls rel8 s
  | .bcc rel8 => Sys2Proof.Machine.execBcc rel8 s
  | .bcs rel8 => Sys2Proof.Machine.execBcs rel8 s
  | .bne rel8 => Sys2Proof.Machine.execBne rel8 s
  | .beq rel8 => Sys2Proof.Machine.execBeq rel8 s
  | .bvc rel8 => Sys2Proof.Machine.execBvc rel8 s
  | .bvs rel8 => Sys2Proof.Machine.execBvs rel8 s
  | .bpl rel8 => Sys2Proof.Machine.execBpl rel8 s
  | .bmi rel8 => Sys2Proof.Machine.execBmi rel8 s
  | .bge rel8 => Sys2Proof.Machine.execBge rel8 s
  | .blt rel8 => Sys2Proof.Machine.execBlt rel8 s
  | .bgt rel8 => Sys2Proof.Machine.execBgt rel8 s
  | .ble rel8 => Sys2Proof.Machine.execBle rel8 s
  | .tsx b => Sys2Proof.Machine.execTsx b s
  | .ins q => Sys2Proof.Machine.execIns q s
  | .pula b => Sys2Proof.Machine.execPula b s
  | .pulb q => Sys2Proof.Machine.execPulb q s
  | .des q => Sys2Proof.Machine.execDes q s
  | .txs q => Sys2Proof.Machine.execTxs q s
  | .psha q => Sys2Proof.Machine.execPsha q s
  | .pshb q => Sys2Proof.Machine.execPshb q s
  | .pulx q => Sys2Proof.Machine.execPulx q s
  | .rts b => Sys2Proof.Machine.execRts b s
  | .abx q => Sys2Proof.Machine.execAbx q s
  | .rti q => Sys2Proof.Machine.execRti q s
  | .pshx q => Sys2Proof.Machine.execPshx q s
  | .mul q => Sys2Proof.Machine.execMul q s
  | .wai q => Sys2Proof.Machine.execWai q s
  | .swi q => Sys2Proof.Machine.execSwi q s
  | .nega => Sys2Proof.Machine.execNega s
  | .coma => Sys2Proof.Machine.execComa s
  | .lsra => Sys2Proof.Machine.execLsra s
  | .rora => Sys2Proof.Machine.execRora s
  | .asra => Sys2Proof.Machine.execAsra s
  | .asla => Sys2Proof.Machine.execAsla s
  | .rola => Sys2Proof.Machine.execRola s
  | .deca => Sys2Proof.Machine.execDeca s
  | .inca => Sys2Proof.Machine.execInca s
  | .tsta => Sys2Proof.Machine.execTsta s
  | .clra => Sys2Proof.Machine.execClra s
  | .negb => Sys2Proof.Machine.execNegb s
  | .comb => Sys2Proof.Machine.execComb s
  | .lsrb => Sys2Proof.Machine.execLsrb s
  | .rorb => Sys2Proof.Machine.execRorb s
  | .asrb => Sys2Proof.Machine.execAsrb s
  | .aslb => Sys2Proof.Machine.execAslb s
  | .rolb => Sys2Proof.Machine.execRolb s
  | .decb => Sys2Proof.Machine.execDecb s
  | .incb => Sys2Proof.Machine.execIncb s
  | .tstb => Sys2Proof.Machine.execTstb s
  | .clrb => Sys2Proof.Machine.execClrb s
  | .negInd off8 => Sys2Proof.Machine.execNegInd off8 s
  | .aimImmInd imm8 off8 => Sys2Proof.Machine.execAimImmInd imm8 off8 s
  | .oimImmInd imm8 off8 => Sys2Proof.Machine.execOimImmInd imm8 off8 s
  | .comInd off8 => Sys2Proof.Machine.execComInd off8 s
  | .lsrInd off8 => Sys2Proof.Machine.execLsrInd off8 s
  | .eimImmInd imm8 off8 => Sys2Proof.Machine.execEimImmInd imm8 off8 s
  | .rorInd off8 => Sys2Proof.Machine.execRorInd off8 s
  | .asrInd off8 => Sys2Proof.Machine.execAsrInd off8 s
  | .aslInd off8 => Sys2Proof.Machine.execAslInd off8 s
  | .rolInd off8 => Sys2Proof.Machine.execRolInd off8 s
  | .decInd off8 => Sys2Proof.Machine.execDecInd off8 s
  | .timImmInd imm8 off8 => Sys2Proof.Machine.execTimImmInd imm8 off8 s
  | .incInd off8 => Sys2Proof.Machine.execIncInd off8 s
  | .tstInd off8 => Sys2Proof.Machine.execTstInd off8 s
  | .jmpInd off8 => Sys2Proof.Machine.execJmpInd off8 s
  | .clrInd off8 => Sys2Proof.Machine.execClrInd off8 s
  | .negExt ext16 => Sys2Proof.Machine.execNegExt ext16 s
  | .aimImmDir imm8 dir8 => Sys2Proof.Machine.execAimImmDir imm8 dir8 s
  | .oimImmDir imm8 dir8 => Sys2Proof.Machine.execOimImmDir imm8 dir8 s
  | .comExt ext16 => Sys2Proof.Machine.execComExt ext16 s
  | .lsrExt ext16 => Sys2Proof.Machine.execLsrExt ext16 s
  | .eimImmDir imm8 dir8 => Sys2Proof.Machine.execEimImmDir imm8 dir8 s
  | .rorExt ext16 => Sys2Proof.Machine.execRorExt ext16 s
  | .asrExt ext16 => Sys2Proof.Machine.execAsrExt ext16 s
  | .aslExt ext16 => Sys2Proof.Machine.execAslExt ext16 s
  | .rolExt ext16 => Sys2Proof.Machine.execRolExt ext16 s
  | .decExt ext16 => Sys2Proof.Machine.execDecExt ext16 s
  | .timImmDir imm8 dir8 => Sys2Proof.Machine.execTimImmDir imm8 dir8 s
  | .incExt ext16 => Sys2Proof.Machine.execIncExt ext16 s
  | .tstExt ext16 => Sys2Proof.Machine.execTstExt ext16 s
  | .jmpExt ext16 => Sys2Proof.Machine.execJmpExt ext16 s
  | .clrExt ext16 => Sys2Proof.Machine.execClrExt ext16 s
  | .subaImm imm8 => Sys2Proof.Machine.execSubaImm imm8 s
  | .cmpaImm imm8 => Sys2Proof.Machine.execCmpaImm imm8 s
  | .sbcaImm imm8 => Sys2Proof.Machine.execSbcaImm imm8 s
  | .subdImm imm16 => Sys2Proof.Machine.execSubdImm imm16 s
  | .andaImm imm8 => Sys2Proof.Machine.execAndaImm imm8 s
  | .bitaImm imm8 => Sys2Proof.Machine.execBitaImm imm8 s
  | .ldaaImm imm8 => Sys2Proof.Machine.execLdaaImm imm8 s
  | .eoraImm imm8 => Sys2Proof.Machine.execEoraImm imm8 s
  | .adcaImm imm8 => Sys2Proof.Machine.execAdcaImm imm8 s
  | .oraaImm imm8 => Sys2Proof.Machine.execOraaImm imm8 s
  | .addaImm imm8 => Sys2Proof.Machine.execAddaImm imm8 s
  | .cpxImm imm16 => Sys2Proof.Machine.execCpxImm imm16 s
  | .bsr rel8 => Sys2Proof.Machine.execBsr rel8 s
  | .ldsImm imm16 => Sys2Proof.Machine.execLdsImm imm16 s
  | .subaDir dir8 => Sys2Proof.Machine.execSubaDir dir8 s
  | .cmpaDir dir8 => Sys2Proof.Machine.execCmpaDir dir8 s
  | .sbcaDir dir8 => Sys2Proof.Machine.execSbcaDir dir8 s
  | .subdDir dir8 => Sys2Proof.Machine.execSubdDir dir8 s
  | .andaDir dir8 => Sys2Proof.Machine.execAndaDir dir8 s
  | .bitaDir dir8 => Sys2Proof.Machine.execBitaDir dir8 s
  | .ldaaDir dir8 => Sys2Proof.Machine.execLdaaDir dir8 s
  | .staaDir dir8 => Sys2Proof.Machine.execStaaDir dir8 s
  | .eoraDir dir8 => Sys2Proof.Machine.execEoraDir dir8 s
  | .adcaDir dir8 => Sys2Proof.Machine.execAdcaDir dir8 s
  | .oraaDir dir8 => Sys2Proof.Machine.execOraaDir dir8 s
  | .addaDir dir8 => Sys2Proof.Machine.execAddaDir dir8 s
  | .cpxDir dir8 => Sys2Proof.Machine.execCpxDir dir8 s
  | .jsrDir dir8 => Sys2Proof.Machine.execJsrDir dir8 s
  | .ldsDir dir8 => Sys2Proof.Machine.execLdsDir dir8 s
  | .stsDir dir8 => Sys2Proof.Machine.execStsDir dir8 s
  | .subaInd off8 => Sys2Proof.Machine.execSubaInd off8 s
  | .cmpaInd off8 => Sys2Proof.Machine.execCmpaInd off8 s
  | .sbcaInd off8 => Sys2Proof.Machine.execSbcaInd off8 s
  | .subdInd off8 => Sys2Proof.Machine.execSubdInd off8 s
  | .andaInd off8 => Sys2Proof.Machine.execAndaInd off8 s
  | .bitaInd off8 => Sys2Proof.Machine.execBitaInd off8 s
  | .ldaaInd off8 => Sys2Proof.Machine.execLdaaInd off8 s
  | .staaInd off8 => Sys2Proof.Machine.execStaaInd off8 s
  | .eoraInd off8 => Sys2Proof.Machine.execEoraInd off8 s
  | .adcaInd off8 => Sys2Proof.Machine.execAdcaInd off8 s
  | .oraaInd off8 => Sys2Proof.Machine.execOraaInd off8 s
  | .addaInd off8 => Sys2Proof.Machine.execAddaInd off8 s
  | .cpxInd off8 => Sys2Proof.Machine.execCpxInd off8 s
  | .jsrInd off8 => Sys2Proof.Machine.execJsrInd off8 s
  | .ldsInd off8 => Sys2Proof.Machine.execLdsInd off8 s
  | .stsInd off8 => Sys2Proof.Machine.execStsInd off8 s
  | .subaExt ext16 => Sys2Proof.Machine.execSubaExt ext16 s
  | .cmpaExt ext16 => Sys2Proof.Machine.execCmpaExt ext16 s
  | .sbcaExt ext16 => Sys2Proof.Machine.execSbcaExt ext16 s
  | .subdExt ext16 => Sys2Proof.Machine.execSubdExt ext16 s
  | .andaExt ext16 => Sys2Proof.Machine.execAndaExt ext16 s
  | .bitaExt ext16 => Sys2Proof.Machine.execBitaExt ext16 s
  | .ldaaExt ext16 => Sys2Proof.Machine.execLdaaExt ext16 s
  | .staaExt ext16 => Sys2Proof.Machine.execStaaExt ext16 s
  | .eoraExt ext16 => Sys2Proof.Machine.execEoraExt ext16 s
  | .adcaExt ext16 => Sys2Proof.Machine.execAdcaExt ext16 s
  | .oraaExt ext16 => Sys2Proof.Machine.execOraaExt ext16 s
  | .addaExt ext16 => Sys2Proof.Machine.execAddaExt ext16 s
  | .cpxExt ext16 => Sys2Proof.Machine.execCpxExt ext16 s
  | .jsrExt ext16 => Sys2Proof.Machine.execJsrExt ext16 s
  | .ldsExt ext16 => Sys2Proof.Machine.execLdsExt ext16 s
  | .stsExt ext16 => Sys2Proof.Machine.execStsExt ext16 s
  | .subbImm imm8 => Sys2Proof.Machine.execSubbImm imm8 s
  | .cmpbImm imm8 => Sys2Proof.Machine.execCmpbImm imm8 s
  | .sbcbImm imm8 => Sys2Proof.Machine.execSbcbImm imm8 s
  | .adddImm imm16 => Sys2Proof.Machine.execAdddImm imm16 s
  | .andbImm imm8 => Sys2Proof.Machine.execAndbImm imm8 s
  | .bitbImm imm8 => Sys2Proof.Machine.execBitbImm imm8 s
  | .ldabImm imm8 => Sys2Proof.Machine.execLdabImm imm8 s
  | .eorbImm imm8 => Sys2Proof.Machine.execEorbImm imm8 s
  | .adcbImm imm8 => Sys2Proof.Machine.execAdcbImm imm8 s
  | .orabImm imm8 => Sys2Proof.Machine.execOrabImm imm8 s
  | .addbImm imm8 => Sys2Proof.Machine.execAddbImm imm8 s
  | .lddImm imm16 => Sys2Proof.Machine.execLddImm imm16 s
  | .ldxImm imm16 => Sys2Proof.Machine.execLdxImm imm16 s
  | .subbDir dir8 => Sys2Proof.Machine.execSubbDir dir8 s
  | .cmpbDir dir8 => Sys2Proof.Machine.execCmpbDir dir8 s
  | .sbcbDir dir8 => Sys2Proof.Machine.execSbcbDir dir8 s
  | .adddDir dir8 => Sys2Proof.Machine.execAdddDir dir8 s
  | .andbDir dir8 => Sys2Proof.Machine.execAndbDir dir8 s
  | .bitbDir dir8 => Sys2Proof.Machine.execBitbDir dir8 s
  | .ldabDir dir8 => Sys2Proof.Machine.execLdabDir dir8 s
  | .stabDir dir8 => Sys2Proof.Machine.execStabDir dir8 s
  | .eorbDir dir8 => Sys2Proof.Machine.execEorbDir dir8 s
  | .adcbDir dir8 => Sys2Proof.Machine.execAdcbDir dir8 s
  | .orabDir dir8 => Sys2Proof.Machine.execOrabDir dir8 s
  | .addbDir dir8 => Sys2Proof.Machine.execAddbDir dir8 s
  | .lddDir dir8 => Sys2Proof.Machine.execLddDir dir8 s
  | .stdDir dir8 => Sys2Proof.Machine.execStdDir dir8 s
  | .ldxDir dir8 => Sys2Proof.Machine.execLdxDir dir8 s
  | .stxDir dir8 => Sys2Proof.Machine.execStxDir dir8 s
  | .subbInd off8 => Sys2Proof.Machine.execSubbInd off8 s
  | .cmpbInd off8 => Sys2Proof.Machine.execCmpbInd off8 s
  | .sbcbInd off8 => Sys2Proof.Machine.execSbcbInd off8 s
  | .adddInd off8 => Sys2Proof.Machine.execAdddInd off8 s
  | .andbInd off8 => Sys2Proof.Machine.execAndbInd off8 s
  | .bitbInd off8 => Sys2Proof.Machine.execBitbInd off8 s
  | .ldabInd off8 => Sys2Proof.Machine.execLdabInd off8 s
  | .stabInd off8 => Sys2Proof.Machine.execStabInd off8 s
  | .eorbInd off8 => Sys2Proof.Machine.execEorbInd off8 s
  | .adcbInd off8 => Sys2Proof.Machine.execAdcbInd off8 s
  | .orabInd off8 => Sys2Proof.Machine.execOrabInd off8 s
  | .addbInd off8 => Sys2Proof.Machine.execAddbInd off8 s
  | .lddInd off8 => Sys2Proof.Machine.execLddInd off8 s
  | .stdInd off8 => Sys2Proof.Machine.execStdInd off8 s
  | .ldxInd off8 => Sys2Proof.Machine.execLdxInd off8 s
  | .stxInd off8 => Sys2Proof.Machine.execStxInd off8 s
  | .subbExt ext16 => Sys2Proof.Machine.execSubbExt ext16 s
  | .cmpbExt ext16 => Sys2Proof.Machine.execCmpbExt ext16 s
  | .sbcbExt ext16 => Sys2Proof.Machine.execSbcbExt ext16 s
  | .adddExt ext16 => Sys2Proof.Machine.execAdddExt ext16 s
  | .andbExt ext16 => Sys2Proof.Machine.execAndbExt ext16 s
  | .bitbExt ext16 => Sys2Proof.Machine.execBitbExt ext16 s
  | .ldabExt ext16 => Sys2Proof.Machine.execLdabExt ext16 s
  | .stabExt ext16 => Sys2Proof.Machine.execStabExt ext16 s
  | .eorbExt ext16 => Sys2Proof.Machine.execEorbExt ext16 s
  | .adcbExt ext16 => Sys2Proof.Machine.execAdcbExt ext16 s
  | .orabExt ext16 => Sys2Proof.Machine.execOrabExt ext16 s
  | .addbExt ext16 => Sys2Proof.Machine.execAddbExt ext16 s
  | .lddExt ext16 => Sys2Proof.Machine.execLddExt ext16 s
  | .stdExt ext16 => Sys2Proof.Machine.execStdExt ext16 s
  | .ldxExt ext16 => Sys2Proof.Machine.execLdxExt ext16 s

end Sys2Proof.Machine
end

