-- ==== Sys2Proof/Machine/Step.lean ====
section
/-! DEFINITION. One step: one evaluation of the block on its input ports (70_reset_and_hazards.md R807).  The inputs
stay as the host presents them: the block never advances `addr` (10_state.md R36). -/

namespace Sys2Proof.Machine

/-- One evaluation under a value of `QUIRK_EXTRA`: the decoded instruction's meaning, or the outcome of bytes that
decode to none (60_exceptions.md R705). -/
def stepWith (quirk : List Byte) (s : State) : Host.Outcome State Fault Refusal :=
  match decodeWith quirk s.bytes with
  | .ok i => exec i s
  | .error (.undefinedOpcode op) => driveUndefined op s
  | .error .short => driveShort s

/-- One evaluation of the configured block. -/
def step (s : State) : Host.Outcome State Fault Refusal := stepWith Config.quirkExtra s

/-- The ports with an instruction presented on them as the host presents one: the bytes of the table's numbering (log
entry 19) on `win`, as many of them valid as the space has from `addr` on (20_memory.md R62; log entry 3). -/
def State.withFetchWord (s : State) (nbits w : Nat) : State :=
  match tableWordBytes nbits w with
  | [b0, b1, b2] => { s with win := packWin b0 b1 b2, avail := BitVec.ofNat 2 (windowLimit s.addr) }
  | _ => s

end Sys2Proof.Machine
end

