-- ==== Sys2Proof/Machine/Flags.lean ====
section
/-! DEFINITION. The status flags, as metadata only: the block sets no flag and reads no flag, so there is no flag
computation to model (10_state.md R37, R38; 00_scope.md R5). -/

namespace Sys2Proof.Machine

/-- The six status flags in the source's order (10_state.md R37).  Their places in `ccr` are not in the source. -/
def statusFlags : List Flag := [.h, .i, .n, .z, .v, .c]

/-- Whether a grouping touches a flag. -/
def flagGroupTouches (g : FlagGroup) : Flag → Bool
  | .h => g.h
  | .i => g.i
  | .n => g.n
  | .z => g.z
  | .v => g.v
  | .c => g.c

/-- The eight flag-update groupings, each the subset of flags it touches (10_state.md R37); the parameter
`FLAG_GROUPS`. -/
def flagGroups : List FlagGroup := List.ofFn Config.flagGroup

end Sys2Proof.Machine
end

