-- ==== Sys2Proof/Machine/Metadata.lean ====
section
/-! DEFINITION. The constant architecture metadata the block exposes (10_state.md R37, 00_scope.md R7).  No rule of
the block reads it. -/

namespace Sys2Proof.Machine

/-- A named register of the decoded CPU and its width in bits. -/
structure RegisterInfo where
  name : String
  width : Nat
  deriving DecidableEq, Repr

/-- A sub-view of a register: bits `hi` down to `lo` of `parent`. -/
structure SubView where
  name : String
  parent : String
  hi : Nat
  lo : Nat
  deriving DecidableEq, Repr

/-- The metadata record. -/
structure ArchMetadata where
  addressWidthBytes : Nat
  defaultIntegerBytes : Nat
  instructionAlignmentBytes : Nat
  maxInstructionLengthBytes : Nat
  bigEndian : Bool
  registers : List RegisterInfo
  subViews : List SubView
  flags : List Flag
  flagGroups : List FlagGroup
  deriving DecidableEq, Repr

/-- The names and widths of the decoded CPU's registers (10_state.md R37, 92_eei_decisions.md D15). -/
def metadataRegisters : List RegisterInfo :=
  [⟨"sp", 16⟩, ⟨"pc", 16⟩, ⟨"x", 16⟩, ⟨"d", 16⟩, ⟨"a", 8⟩, ⟨"b", 8⟩, ⟨"ccr", 8⟩]

/-- The two 8-bit sub-views of the accumulator pair: `a` is `d[15:8]`, `b` is `d[7:0]` (10_state.md R37). -/
def metadataSubViews : List SubView :=
  [⟨"a", "d", 15, 8⟩, ⟨"b", "d", 7, 0⟩]

/-- The metadata constant. -/
def archMetadata : ArchMetadata where
  addressWidthBytes := 2
  defaultIntegerBytes := 1
  instructionAlignmentBytes := 1
  maxInstructionLengthBytes := 3
  bigEndian := true
  registers := metadataRegisters
  subViews := metadataSubViews
  flags := statusFlags
  flagGroups := flagGroups

end Sys2Proof.Machine
end

