-- ==== Sys2Proof/Machine/Rom.lean ====
section
/-! DEFINITION. The opcode ROM as the parameter `ROM_TABLE` (10_state.md R34, 00_scope.md R8), the named checks that
admit a table (00_scope.md R9), the reference table (30_encoding.md R91), the parameter `QUIRK_EXTRA` applied to a
table (R94), and the decode function of the block for any table (30_encoding.md R88). -/

namespace Sys2Proof.Machine

/-- A present ROM slot: a mnemonic and an operand shape (10_state.md R34). -/
structure RomEntry where
  mnem : Mnemonic
  shape : Shape
  deriving DecidableEq, Repr

/-- A ROM content: slot by slot, absent or an entry (10_state.md R34). -/
abbrev RomTable := List (Option RomEntry)

/-- `ROM[op]` (00_scope.md R11): total, and absent where a table has no such slot. -/
def romLookup (rom : RomTable) (op : Byte) : Option RomEntry := (rom[op.toNat]?).join

/-- The present entries of a table. -/
def presentEntries (rom : RomTable) : List RomEntry := rom.filterMap id

/-- The named checks of a `ROM_TABLE` argument (00_scope.md R9). -/
inductive RomCheck where
  /-- `WF_SIZE`. -/
  | size
  /-- `WF_ATTESTED`. -/
  | attested
  /-- `WF_LEN`. -/
  | len
  /-- `WF_BRANCH`. -/
  | branch
  /-- `WF_TARGET`. -/
  | target
  /-- `WF_SENTINEL`. -/
  | sentinel
  /-- `WF_QUIRK`. -/
  | quirk
  deriving DecidableEq, Repr

/-- The rows the source attests (30_encoding.md R92). -/
def attestedRows : List (Byte × Option RomEntry) :=
  [(0x01, some ⟨.nop, .none⟩), (0x20, some ⟨.bra, .byteAddress⟩), (0x7E, some ⟨.jmp, .wordAddress⟩),
   (0x86, some ⟨.ldaa, .byteImmediate⟩), (0xFF, Option.none)]

/-- Whether a table passes a check, given the sentinel's text (00_scope.md R9).  Entries are members of the closed
mnemonic set, so `WF_SENTINEL` asks that none is spelled like the sentinel. -/
def RomCheck.holds (undef : String) (rom : RomTable) : RomCheck → Bool
  | .size => rom.length == 256
  | .attested => attestedRows.all fun (op, e) => romLookup rom op == e
  | .len => (presentEntries rom).all fun e => decide (1 + e.shape.len ≤ 3)
  | .branch => (presentEntries rom).all fun e => category e.mnem != .cond || e.shape == .byteAddress
  | .target => (presentEntries rom).all fun e =>
      !(e.mnem == .jsr || e.mnem == .jmp) || e.shape.len == 1 || e.shape.len == 2
  | .sentinel => (presentEntries rom).all fun e => e.mnem.text != undef
  | .quirk => (presentEntries rom).all fun e =>
      !(e.mnem == .tsx || e.mnem == .pula || e.mnem == .rts) || e.shape == .byteAddress

/-- The checks, in the order in which 00_scope.md R9 lists them (what the order decides: log entry 18). -/
def romChecks : List RomCheck := [.size, .attested, .len, .branch, .target, .sentinel, .quirk]

/-- Admission of a table: it passes every check (00_scope.md R9). -/
def romOk (undef : String) (rom : RomTable) : Bool := romChecks.all fun c => c.holds undef rom

/-- A table, or the name of a check that refuses it as a configuration (00_scope.md R9, 70_reset_and_hazards.md R801).
DESIGN CHOICE, log entry 18: of several checks that a table fails, the first in the order of R9 gives the name. -/
def admitRom (undef : String) (rom : RomTable) : Except RomCheck RomTable :=
  match romChecks.find? fun c => !c.holds undef rom with
  | some c => .error c
  | Option.none => .ok rom

/-- A present slot. -/
def row (m : Mnemonic) (S : Shape) : Option RomEntry := some ⟨m, S⟩

/-- Row 0_ of the grid of 30_encoding.md R91. -/
def romRow0 : List (Option RomEntry) :=
  [none, row .nop .none, none, none,
   row .lsrd .none, row .asld .none, row .tap .none, row .tpa .none,
   row .inx .none, row .dex .none, row .clv .none, row .sev .none,
   row .clc .none, row .sec .none, row .cli .none, row .sei .none]

/-- Row 1_ of the grid of 30_encoding.md R91. -/
def romRow1 : List (Option RomEntry) :=
  [row .sba .none, row .cba .none, none, none,
   none, none, row .tab .none, row .tba .none,
   row .xgdx .none, row .daa .none, row .slp .none, row .aba .none,
   none, none, none, none]

/-- Row 2_ of the grid of 30_encoding.md R91. -/
def romRow2 : List (Option RomEntry) :=
  [row .bra .byteAddress, row .brn .byteAddress, row .bhi .byteAddress, row .bls .byteAddress,
   row .bcc .byteAddress, row .bcs .byteAddress, row .bne .byteAddress, row .beq .byteAddress,
   row .bvc .byteAddress, row .bvs .byteAddress, row .bpl .byteAddress, row .bmi .byteAddress,
   row .bge .byteAddress, row .blt .byteAddress, row .bgt .byteAddress, row .ble .byteAddress]

/-- Row 3_ of the grid of 30_encoding.md R91. -/
def romRow3 : List (Option RomEntry) :=
  [row .tsx .byteAddress, row .ins .none, row .pula .byteAddress, row .pulb .none,
   row .des .none, row .txs .none, row .psha .none, row .pshb .none,
   row .pulx .none, row .rts .byteAddress, row .abx .none, row .rti .none,
   row .pshx .none, row .mul .none, row .wai .none, row .swi .none]

/-- Row 4_ of the grid of 30_encoding.md R91. -/
def romRow4 : List (Option RomEntry) :=
  [row .nega .none, none, none, row .coma .none,
   row .lsra .none, none, row .rora .none, row .asra .none,
   row .asla .none, row .rola .none, row .deca .none, none,
   row .inca .none, row .tsta .none, none, row .clra .none]

/-- Row 5_ of the grid of 30_encoding.md R91. -/
def romRow5 : List (Option RomEntry) :=
  [row .negb .none, none, none, row .comb .none,
   row .lsrb .none, none, row .rorb .none, row .asrb .none,
   row .aslb .none, row .rolb .none, row .decb .none, none,
   row .incb .none, row .tstb .none, none, row .clrb .none]

/-- Row 6_ of the grid of 30_encoding.md R91. -/
def romRow6 : List (Option RomEntry) :=
  [row .neg .indexed, row .aim .immediateIndexed, row .oim .immediateIndexed, row .com .indexed,
   row .lsr .indexed, row .eim .immediateIndexed, row .ror .indexed, row .asr .indexed,
   row .asl .indexed, row .rol .indexed, row .dec .indexed, row .tim .immediateIndexed,
   row .inc .indexed, row .tst .indexed, row .jmp .indexed, row .clr .indexed]

/-- Row 7_ of the grid of 30_encoding.md R91. -/
def romRow7 : List (Option RomEntry) :=
  [row .neg .wordAddress, row .aim .directMemory, row .oim .directMemory, row .com .wordAddress,
   row .lsr .wordAddress, row .eim .directMemory, row .ror .wordAddress, row .asr .wordAddress,
   row .asl .wordAddress, row .rol .wordAddress, row .dec .wordAddress, row .tim .directMemory,
   row .inc .wordAddress, row .tst .wordAddress, row .jmp .wordAddress, row .clr .wordAddress]

/-- Row 8_ of the grid of 30_encoding.md R91. -/
def romRow8 : List (Option RomEntry) :=
  [row .suba .byteImmediate, row .cmpa .byteImmediate, row .sbca .byteImmediate, row .subd .wordImmediate,
   row .anda .byteImmediate, row .bita .byteImmediate, row .ldaa .byteImmediate, none,
   row .eora .byteImmediate, row .adca .byteImmediate, row .oraa .byteImmediate, row .adda .byteImmediate,
   row .cpx .wordImmediate, row .bsr .byteAddress, row .lds .wordImmediate, none]

/-- Row 9_ of the grid of 30_encoding.md R91. -/
def romRow9 : List (Option RomEntry) :=
  [row .suba .byteAddress, row .cmpa .byteAddress, row .sbca .byteAddress, row .subd .byteAddress,
   row .anda .byteAddress, row .bita .byteAddress, row .ldaa .byteAddress, row .staa .byteAddress,
   row .eora .byteAddress, row .adca .byteAddress, row .oraa .byteAddress, row .adda .byteAddress,
   row .cpx .byteAddress, row .jsr .byteAddress, row .lds .byteAddress, row .sts .byteAddress]

/-- Row A_ of the grid of 30_encoding.md R91. -/
def romRowA : List (Option RomEntry) :=
  [row .suba .indexed, row .cmpa .indexed, row .sbca .indexed, row .subd .indexed,
   row .anda .indexed, row .bita .indexed, row .ldaa .indexed, row .staa .indexed,
   row .eora .indexed, row .adca .indexed, row .oraa .indexed, row .adda .indexed,
   row .cpx .indexed, row .jsr .indexed, row .lds .indexed, row .sts .indexed]

/-- Row B_ of the grid of 30_encoding.md R91. -/
def romRowB : List (Option RomEntry) :=
  [row .suba .wordAddress, row .cmpa .wordAddress, row .sbca .wordAddress, row .subd .wordAddress,
   row .anda .wordAddress, row .bita .wordAddress, row .ldaa .wordAddress, row .staa .wordAddress,
   row .eora .wordAddress, row .adca .wordAddress, row .oraa .wordAddress, row .adda .wordAddress,
   row .cpx .wordAddress, row .jsr .wordAddress, row .lds .wordAddress, row .sts .wordAddress]

/-- Row C_ of the grid of 30_encoding.md R91. -/
def romRowC : List (Option RomEntry) :=
  [row .subb .byteImmediate, row .cmpb .byteImmediate, row .sbcb .byteImmediate, row .addd .wordImmediate,
   row .andb .byteImmediate, row .bitb .byteImmediate, row .ldab .byteImmediate, none,
   row .eorb .byteImmediate, row .adcb .byteImmediate, row .orab .byteImmediate, row .addb .byteImmediate,
   row .ldd .wordImmediate, none, row .ldx .wordImmediate, none]

/-- Row D_ of the grid of 30_encoding.md R91. -/
def romRowD : List (Option RomEntry) :=
  [row .subb .byteAddress, row .cmpb .byteAddress, row .sbcb .byteAddress, row .addd .byteAddress,
   row .andb .byteAddress, row .bitb .byteAddress, row .ldab .byteAddress, row .stab .byteAddress,
   row .eorb .byteAddress, row .adcb .byteAddress, row .orab .byteAddress, row .addb .byteAddress,
   row .ldd .byteAddress, row .std .byteAddress, row .ldx .byteAddress, row .stx .byteAddress]

/-- Row E_ of the grid of 30_encoding.md R91. -/
def romRowE : List (Option RomEntry) :=
  [row .subb .indexed, row .cmpb .indexed, row .sbcb .indexed, row .addd .indexed,
   row .andb .indexed, row .bitb .indexed, row .ldab .indexed, row .stab .indexed,
   row .eorb .indexed, row .adcb .indexed, row .orab .indexed, row .addb .indexed,
   row .ldd .indexed, row .std .indexed, row .ldx .indexed, row .stx .indexed]

/-- Row F_ of the grid of 30_encoding.md R91. -/
def romRowF : List (Option RomEntry) :=
  [row .subb .wordAddress, row .cmpb .wordAddress, row .sbcb .wordAddress, row .addd .wordAddress,
   row .andb .wordAddress, row .bitb .wordAddress, row .ldab .wordAddress, row .stab .wordAddress,
   row .eorb .wordAddress, row .adcb .wordAddress, row .orab .wordAddress, row .addb .wordAddress,
   row .ldd .wordAddress, row .std .wordAddress, row .ldx .wordAddress, none]

/-- The reference population: the default `ROM_TABLE` (30_encoding.md R91, 92_eei_decisions.md D3). -/
def referenceRom : RomTable :=
  romRow0 ++ romRow1 ++ romRow2 ++ romRow3 ++ romRow4 ++ romRow5 ++ romRow6 ++ romRow7 ++
  romRow8 ++ romRow9 ++ romRowA ++ romRowB ++ romRowC ++ romRowD ++ romRowE ++ romRowF

/-- The slots from slot `k` on, the present ones that `QUIRK_EXTRA` names given the shape `ByteAddress` (log entry 20). -/
def quirkFrom (quirk : List Byte) : Nat → RomTable → RomTable
  | _, [] => []
  | k, e :: rest =>
    (if quirk.contains (BitVec.ofNat 8 k) then e.map fun r => { r with shape := .byteAddress } else e) ::
      quirkFrom quirk (k + 1) rest

/-- A table under a value of `QUIRK_EXTRA` (30_encoding.md R94).  The rule speaks of `None`-shape reference rows only.
DESIGN CHOICE, log entry 20: on any other table too, a present slot that the value names takes the shape `ByteAddress`,
whatever shape it has, and an absent one stays absent. -/
def withQuirk (quirk : List Byte) (rom : RomTable) : RomTable := quirkFrom quirk 0 rom

/-- The configured table: the reference population under the configured `QUIRK_EXTRA`. -/
def configuredRom : RomTable := withQuirk Config.quirkExtra referenceRom

/-- `Decode(addr, win, avail)` for a ROM content (30_encoding.md R88).  DESIGN CHOICE, log entry 21: it answers for every
table; under a table that a check of 00_scope.md R9 refuses, a decode is outside the spec (70_reset_and_hazards.md R801)
and its answer stands for nothing.  `admittedDecode` is the decode with the admission. -/
def blockDecode (rom : RomTable) (addr : Word) (win : BitVec 24) (avail : BitVec 2) : Outputs :=
  if avail.toNat = 0 then .short
  else
    match romLookup rom (winB0 win) with
    | Option.none => .undefined (undefinedRecord (winB0 win) addr)
    | some e =>
      if avail.toNat < 1 + e.shape.len then .short
      else .ok (okRecord (winB0 win) e.mnem e.shape (operandValue e.shape (winB1 win) (winB2 win)) addr)

/-- A decode of a block with a given table: a table that fails a check is refused by the check's name, and there is no
decode under it (00_scope.md R9, 70_reset_and_hazards.md R801; 93_implementation_defined.md I7). -/
def admittedDecode (undef : String) (rom : RomTable) (addr : Word) (win : BitVec 24) (avail : BitVec 2) :
    Except RomCheck Outputs :=
  match admitRom undef rom with
  | .ok t => .ok (blockDecode t addr win avail)
  | .error c => .error c

/-- The output ports at this instant: the function of the current inputs that 10_state.md R30 and R41 ask for, whatever
was decoded before. -/
def State.outputs (s : State) : Outputs := blockDecode configuredRom s.addr s.win s.avail

end Sys2Proof.Machine
end

