-- ==== Sys2Proof/Machine/Pins.lean ====
section
/-! DEFINITION. The output ports as pins: every output of 10_state.md R32 at its width, enumerations by their codes, at every
instant a function of the current inputs (R30, R41). -/

namespace Sys2Proof.Machine

/-- The output pins other than `status`, at the widths of 10_state.md R32.  `mnem` stays a symbol and `tokens` a list,
as the port table has them. -/
structure OutputPins where
  opcode : BitVec 8
  mnem : MnemSymbol
  shape : BitVec 3
  oplen : BitVec 2
  ilen : BitVec 2
  opvalValid : BitVec 1
  opval : BitVec 16
  fhi : BitVec 8
  flo : BitVec 8
  cat : BitVec 2
  e0Valid : BitVec 1
  e0Kind : BitVec 2
  e0Target : BitVec 16
  e1Valid : BitVec 1
  e1Kind : BitVec 2
  e1Target : BitVec 16
  nextAddr : BitVec 16
  tokens : List Token
  nopByte : BitVec 8
  deriving DecidableEq, Repr

/-- The `kind` and `target` pins of an edge port: the edge's where it is valid, and otherwise free values of `addr` and
of the bytes that the decode reads (log entry 7). -/
def edgePins (port : Fin 2) (e : Option Edge) (addr : Word) (bytes : List Byte) : BitVec 2 × Word :=
  match e with
  | some e => (e.kind.code, e.target)
  | Option.none => (Config.idleKind port bytes, Config.idleTarget port addr bytes)

/-- The pins that carry the record of a decode at `addr` which read `bytes`. -/
def recordPins (addr : Word) (bytes : List Byte) (r : DecodeRecord) : OutputPins where
  opcode := r.opcode
  mnem := r.mnem
  shape := r.shape.code
  oplen := r.oplen
  ilen := r.ilen
  opvalValid := BitVec.ofBool r.opvalValid
  opval := r.opval
  fhi := r.fhi
  flo := r.flo
  cat := r.cat.code
  e0Valid := BitVec.ofBool r.e0.isSome
  e0Kind := (edgePins 0 r.e0 addr bytes).1
  e0Target := (edgePins 0 r.e0 addr bytes).2
  e1Valid := BitVec.ofBool r.e1.isSome
  e1Kind := (edgePins 1 r.e1 addr bytes).1
  e1Target := (edgePins 1 r.e1 addr bytes).2
  nextAddr := r.nextAddr
  tokens := r.tokens
  nopByte := r.nopByte

/-- The `status` pins, 2 bits; 3 is never driven (10_state.md R32). -/
def State.statusPin (s : State) : BitVec 2 := s.outputs.status.code

/-- The other output pins; `none` on `SHORT`, where only `status` is defined (60_exceptions.md R703).  The bytes read are
the first `ilen` valid ones (20_memory.md R65). -/
def State.pins (s : State) : Option OutputPins :=
  s.outputs.record?.map fun r => recordPins s.addr (s.bytes.take r.ilen.toNat) r

end Sys2Proof.Machine
end

