-- ==== Sys2Proof/Machine/HostSide.lean ====
section
/-! DEFINITION. What stands around the block: the host's byte memory and its read interface (20_memory.md R60 to R62),
the presentation of a window, the host queries built on the outputs (60_exceptions.md R702, 41_control_transfer.md
R309, 30_encoding.md R100, R106), and the sweep harness of 95_test_vectors.md L3.  None of it is state of the block. -/

namespace Sys2Proof.Machine

/-- The size of the one address space (20_memory.md R61). -/
def addressSpace : Nat := 65536

/-- The bytes the host can read, as address and byte pairs in one canonical form (`Memory.wf`).  An unlisted address
is outside the addressable region: it reads as no byte (log entry 10). -/
abbrev Memory := List Host.Cell

/-- Addresses at least `lo`, strictly rising, all inside the address space. -/
def Memory.wfFrom : Nat → Memory → Bool
  | _, [] => true
  | lo, (a, _) :: rest => decide (lo ≤ a) && decide (a < addressSpace) && Memory.wfFrom (a + 1) rest

/-- The canonical form of a memory.  An unlisted address reads as no byte, so no entry can equal it. -/
def Memory.wf (mem : Memory) : Bool := Memory.wfFrom 0 mem

/-- `MemRead(a, 1)`: the byte at an address, if the region has it. -/
def Memory.read : Memory → Nat → Option Byte
  | [], _ => none
  | (k, b) :: rest, a => if k = a then some b else Memory.read rest a

/-- A list with the byte at one address replaced, or added in its place where the list has none there (DESIGN CHOICE,
log entry 17: adding it extends the addressable region). -/
def Memory.insertAt : Memory → Nat → Byte → Memory
  | [], a, v => [(a, v)]
  | (k, b) :: rest, a, v =>
    if a < k then (a, v) :: (k, b) :: rest
    else if a = k then (a, v) :: rest
    else (k, b) :: Memory.insertAt rest a v

/-- The host's write of one byte.  DESIGN CHOICE, log entry 17: at an address of the space that holds no byte the write
adds it, and so extends the addressable region; an address outside the space is left alone. -/
def Memory.write (mem : Memory) (a : Nat) (v : Byte) : Memory :=
  if a < addressSpace then Memory.insertAt mem a v else mem

/-- The host's write of a run of bytes from an address up; it does not wrap past the top (DESIGN CHOICE, log entry 17). -/
def Memory.writeBytes : Memory → Nat → List Byte → Memory
  | mem, _, [] => mem
  | mem, a, v :: vs => Memory.writeBytes (Memory.write mem a v) (a + 1) vs

/-- `readBytes(address, maxLength)`: at most `n` bytes from `a` up, fewer only at the end of the addressable region;
the read does not wrap past 0xFFFF (20_memory.md R60, R62). -/
def Memory.readBytes (mem : Memory) : Nat → Nat → List Byte
  | _, 0 => []
  | a, n + 1 =>
    if a < addressSpace then
      match Memory.read mem a with
      | some b => b :: Memory.readBytes mem (a + 1) n
      | none => []
    else []

/-- `maxInstructionLength`, the bytes of a whole window (00_scope.md R7). -/
def maxInstructionLength : Nat := 3

/-- The window the host reads at an address. -/
def Memory.window (mem : Memory) (a : Word) : List Byte := mem.readBytes a.toNat maxInstructionLength

/-- A list of at most three bytes on `win`; positions past the list carry 0, and no output depends on them (log entry
11). -/
def winOf (bytes : List Byte) : BitVec 24 := packWin (bytes.getD 0 0) (bytes.getD 1 0) (bytes.getD 2 0)

/-- The host presents the window at an address on the input ports (20_memory.md R60). -/
def State.present (s : State) (mem : Memory) (a : Word) : State :=
  { s with
    addr := a
    win := winOf (mem.window a)
    avail := BitVec.ofNat 2 (mem.window a).length }

/-- The answer of a host query: a result, the explicit "no result", or a refusal where the decode is `SHORT`
(60_exceptions.md R702, R703). -/
inductive QueryResult (α : Type) where
  | result (a : α)
  | noResult
  | refused
  deriving DecidableEq, Repr

/-- What the instruction-info query returns (41_control_transfer.md R309). -/
structure InstructionInfo where
  length : Nat
  edges : List Edge
  deriving DecidableEq, Repr

/-- The valid edges, `e0` before `e1` (41_control_transfer.md R309). -/
def DecodeRecord.edges (r : DecodeRecord) : List Edge := r.e0.toList ++ r.e1.toList

/-- The instruction-info query (41_control_transfer.md R309, 60_exceptions.md R702). -/
def infoQuery : Outputs → QueryResult InstructionInfo
  | .ok r => .result ⟨r.ilen.toNat, r.edges⟩
  | .undefined _ => .noResult
  | .short => .refused

/-- The rendered sequence of a record: the opcode-text token, then the operand tokens (30_encoding.md R105, R106). -/
def listingWith (width : Nat) (undef : String) (r : DecodeRecord) : List Token :=
  opToken width (r.mnem.textWith undef) :: r.tokens

/-- The text that a token shows (30_encoding.md R103). -/
def Token.shown : Token → String
  | .text s => s
  | .int s _ => s
  | .addr s _ => s
  | .reg s => s
  | .op s => s

/-- An instruction as it is written: its mnemonic, and its operand tokens where it has any (30_encoding.md R101). -/
def assemblerText (undef : String) (r : DecodeRecord) : String :=
  if r.tokens.isEmpty then r.mnem.textWith undef
  else r.mnem.textWith undef ++ " " ++ String.join (r.tokens.map Token.shown)

/-- The instruction-text query at a column width (60_exceptions.md R702, 30_encoding.md R107). -/
def textQueryWith (width : Nat) (undef : String) : Outputs → QueryResult (List Token)
  | .ok r => .result (listingWith width undef r)
  | .undefined _ => .noResult
  | .short => .refused

/-- The instruction-text query at the configured `MNEM_WIDTH` and `UNDEF_MNEMONIC`. -/
def textQuery (o : Outputs) : QueryResult (List Token) := textQueryWith Config.mnemWidth Config.undefMnemonic o

/-- The lifting query: only the total length, 1 for an undefined opcode (60_exceptions.md R702). -/
def liftQuery : Outputs → QueryResult Nat
  | .ok r => .result r.ilen.toNat
  | .undefined r => .result r.ilen.toNat
  | .short => .refused

/-- The patch query on a range of `n` bytes: `n` copies of the canonical no-operation byte (30_encoding.md R100). -/
def patchQuery (n : Nat) : List Byte := List.replicate n nopByteValue

/-- The host writes the patch over a range (70_reset_and_hazards.md R806). -/
def Memory.patch (mem : Memory) (a n : Nat) : Memory := mem.writeBytes a (patchQuery n)

/-- Why a sweep stopped (95_test_vectors.md L3). -/
inductive StopReason where
  | stopAddress
  | undefined
  | short
  deriving DecidableEq, Repr

/-- The state of the sweep harness (95_test_vectors.md L3); the trace is in order of decoding. -/
structure SweepState where
  mem : Memory
  a : Word
  trace : List Outputs
  stop : Option StopReason
  deriving DecidableEq, Repr

/-- The start state of a sweep. -/
def sweepStart (mem : Memory) (a0 : Word) : SweepState := ⟨mem, a0, [], none⟩

/-- The decode of the window at an address of a memory, under any table (log entry 21). -/
def decodeAt (rom : RomTable) (mem : Memory) (a : Word) : Outputs :=
  blockDecode rom a (winOf (mem.window a)) (BitVec.ofNat 2 (mem.window a).length)

/-- One harness step (95_test_vectors.md L3): decode, record, and go on at `next_addr` on `OK`; stop on any other
outcome, and when the stop address is reached.  It takes any table, admitted or not (log entry 21). -/
def sweepStep (rom : RomTable) (stopAt : Option Word) (h : SweepState) : SweepState :=
  match h.stop with
  | some _ => h
  | none =>
    let o := decodeAt rom h.mem h.a
    let h' := { h with trace := h.trace ++ [o] }
    match o with
    | .short => { h' with stop := some .short }
    | .undefined _ => { h' with stop := some .undefined }
    | .ok r => { h' with a := r.nextAddr, stop := if stopAt = some r.nextAddr then some .stopAddress else none }

/-- At most `n` harness steps. -/
def sweep (rom : RomTable) (stopAt : Option Word) : Nat → SweepState → SweepState
  | 0, h => h
  | n + 1, h => sweep rom stopAt n (sweepStep rom stopAt h)

end Sys2Proof.Machine
end

