-- ==== Sys2Proof/Safety.lean ====
section
/-! DEFINITION. What the host owes the block, when the outputs belong to the inputs, and what well-formed outputs are:
the terms in which the statements about every step are made. -/

namespace Sys2Proof.Machine

/-- The host's contract on `avail`: no byte past the top of the address space (20_memory.md R62). -/
def WindowInSpace (s : State) : Prop := s.avail.toNat ≤ windowLimit s.addr

/-- The host presents a whole window (70_reset_and_hazards.md R802). -/
def WindowWhole (s : State) : Prop := s.avail.toNat = 3

/-- A safe decode: its outcome is not the precondition violation `SHORT` (60_exceptions.md R703). -/
def SafeDecode (s : State) : Prop := s.out.status ≠ .short

/-- The last answer is what the output ports show now: the function of the inputs that 10_state.md R30 and R41 ask
for. -/
def Settled (s : State) : Prop := s.out = s.outputs

/-- The outputs of an `OK` decode at an address fit each other and a row of the configured table. -/
structure OkCoherent (addr : Word) (r : DecodeRecord) : Prop where
  /-- The outputs name the row of their opcode, and `cat` is the mnemonic's category (10_state.md R34, R35). -/
  row : ∃ m, r.mnem = .known m ∧ romLookup configuredRom r.opcode = some ⟨m, r.shape⟩ ∧ r.cat = category m
  /-- `oplen` is the shape's length (30_encoding.md R90). -/
  oplen : r.oplen.toNat = r.shape.len
  /-- `ilen = 1 + oplen` (30_encoding.md R80). -/
  ilen : r.ilen.toNat = 1 + r.oplen.toNat
  /-- `opval_valid` is 1 exactly when `oplen` is not 0 (10_state.md R33). -/
  valid : r.opvalValid = true ↔ r.oplen ≠ 0
  /-- `opval` is 0 when `opval_valid` is 0 (10_state.md R32). -/
  absent : r.opvalValid = false → r.opval = 0
  /-- One-byte operands are zero-extended, so `fhi` is 0 (30_encoding.md R87). -/
  narrow : r.oplen = 1 → r.fhi = 0
  /-- `fhi` and `flo` are the two bytes of `opval` (30_encoding.md R87). -/
  split : r.opval = wordOf r.fhi r.flo
  /-- `next_addr = addr +16 ilen` (41_control_transfer.md R305). -/
  next : r.nextAddr.toNat = (addr.toNat + r.ilen.toNat) % 65536
  /-- The edges are those of the category (41_control_transfer.md R302, R306 to R308). -/
  edges : match r.cat with
    | .none => r.e0 = Option.none ∧ r.e1 = Option.none
    | .cond => r.e0 = some ⟨.taken, takenTarget addr r.opval⟩ ∧ r.e1 = some ⟨.fallthrough, r.nextAddr⟩
    | .call => r.e0 = some ⟨.call, r.opval⟩ ∧ r.e1 = Option.none
    | .jump => r.e0 = some ⟨.uncond, r.opval⟩ ∧ r.e1 = Option.none
  /-- No operand, no tokens (30_encoding.md R106). -/
  tokens : r.opvalValid = false → r.tokens = []
  /-- `nop_byte` is the constant 0x01 (30_encoding.md R100). -/
  nop : r.nopByte = 0x01

/-- The outputs of an `UNDEFINED` decode are those of 60_exceptions.md R701 for an absent opcode. -/
structure UndefinedCoherent (addr : Word) (r : DecodeRecord) : Prop where
  /-- The opcode has no row. -/
  absent : romLookup configuredRom r.opcode = Option.none
  /-- Every output is the one R701 fixes. -/
  outputs : r = undefinedRecord r.opcode addr

/-- The invariant of the last answer, which is what the output ports show where it is settled: well-formed outputs for
their outcome, and nothing on `SHORT`. -/
def OutputsCoherent (s : State) : Prop :=
  match s.out with
  | .short => True
  | .undefined r => UndefinedCoherent s.addr r
  | .ok r => OkCoherent s.addr r

end Sys2Proof.Machine
end

