-- ==== Sys2Proof/Certificates/Slice0/Obligations.lean ====
section
/-! DEFINITION. The statements about the model for the provers, and the outputs they expect, written out from the spec's rules and
not from the model's own record of a row.

A statement that a named row of the default table has this or that mnemonic, shape or category rests on the spec's own
choice of that table (92_eei_decisions.md D3, D21; 93_implementation_defined.md K6 to K15; log entry 6), on its codes
and ports (D2, D7, D8, D9) and on its display tokens (D11, D13, D14, D25): such statements are 'derived'. -/

namespace Sys2Proof.Expect

open Sys2Proof.Machine

/-- The outputs of an `OK` decode of a row without operand. -/
def inherent (op : Byte) (m : Mnemonic) (addr : Word) : Outputs :=
  .ok
    { opcode := op, mnem := .known m, shape := .none, oplen := 0, ilen := 1, opvalValid := false, opval := 0
      fhi := 0, flo := 0, cat := .none, e0 := Option.none, e1 := Option.none, nextAddr := addr + 1, tokens := []
      nopByte := 0x01 }

/-- The outputs of an `OK` decode of a row with one operand byte, in a category with the given edges. -/
def oneByte (op : Byte) (m : Mnemonic) (S : Shape) (b : Byte) (cat : Category) (e0 e1 : Option Edge)
    (tokens : List Token) (addr : Word) : Outputs :=
  .ok
    { opcode := op, mnem := .known m, shape := S, oplen := 1, ilen := 2, opvalValid := true
      opval := b.setWidth 16, fhi := 0, flo := b, cat := cat, e0 := e0, e1 := e1, nextAddr := addr + 2
      tokens := tokens, nopByte := 0x01 }

/-- The outputs of an `OK` decode of a row with two operand bytes: their big-endian value, and the two fields of
it. -/
def twoBytes (op : Byte) (m : Mnemonic) (S : Shape) (v : Word) (hi lo : Byte) (cat : Category) (e0 : Option Edge)
    (tokens : List Token) (addr : Word) : Outputs :=
  .ok
    { opcode := op, mnem := .known m, shape := S, oplen := 2, ilen := 3, opvalValid := true, opval := v
      fhi := hi, flo := lo, cat := cat, e0 := e0, e1 := Option.none, nextAddr := addr + 3, tokens := tokens
      nopByte := 0x01 }

/-- A row without edges and with one operand byte. -/
def plainByte (op : Byte) (m : Mnemonic) (S : Shape) (b : Byte) (tokens : List Token) (addr : Word) : Outputs :=
  oneByte op m S b .none Option.none Option.none tokens addr

/-- A row without edges and with a 16-bit operand. -/
def plainWord (op : Byte) (m : Mnemonic) (S : Shape) (w : Word) (tokens : List Token) (addr : Word) : Outputs :=
  twoBytes op m S w (hiByte w) (loByte w) .none Option.none tokens addr

/-- The tokens of a one-byte address: `Addr(hex2(v), v)`. -/
def addrTokens (b : Byte) : List Token := [.addr (hex2 (b.setWidth 16)) (b.setWidth 16)]

/-- The tokens of a 16-bit address: `Addr(hex4(v), v)`. -/
def wordAddrTokens (w : Word) : List Token := [.addr (hex4 w) w]

/-- The tokens of an indexed operand. -/
def indexedTokens (b : Byte) : List Token :=
  [.int (hex2 (b.setWidth 16)) (b.setWidth 16), .text ",", .reg "x"]

/-- The tokens of an 8-bit immediate. -/
def immediateTokens (b : Byte) : List Token := [.text "#", .int (hex2 (b.setWidth 16)) (b.setWidth 16)]

/-- The tokens of a 16-bit immediate. -/
def wordImmediateTokens (w : Word) : List Token := [.text "#", .int (hex4 w) w]

/-- The outputs of an absent opcode. -/
def undefined (op : Byte) (addr : Word) : Outputs :=
  .undefined
    { opcode := op, mnem := .sentinel, shape := .none, oplen := 0, ilen := 1, opvalValid := false, opval := 0
      fhi := 0, flo := 0, cat := .none, e0 := Option.none, e1 := Option.none, nextAddr := addr + 1, tokens := []
      nopByte := 0x01 }

/-- The 27 opcodes without a row in the default table (30_encoding.md R98). -/
def absentOpcodes : List Byte :=
  [0x00, 0x02, 0x03, 0x12, 0x13, 0x14, 0x15, 0x1C, 0x1D, 0x1E, 0x1F, 0x41, 0x42, 0x45, 0x4B, 0x4E, 0x51, 0x52,
   0x55, 0x5B, 0x5E, 0x87, 0x8F, 0xC7, 0xCD, 0xCF, 0xFF]

/-- The 16 relative-branch mnemonics (41_control_transfer.md R300). -/
def branchMnemonics : List Mnemonic :=
  [.bra, .brn, .bhi, .bls, .bcc, .bcs, .bne, .beq, .bvc, .bvs, .bpl, .bmi, .bge, .blt, .bgt, .ble]

/-- `nop` and the 22 accumulator rows of shape `None` that are no quirk candidates: instruction, opcode, mnemonic (spec/opcode_table.json). -/
def plainRows : List (Instr × Byte × Mnemonic) :=
  [(Instr.nop, 0x01, .nop), (Instr.nega, 0x40, .nega), (Instr.coma, 0x43, .coma), (Instr.lsra, 0x44, .lsra),
   (Instr.rora, 0x46, .rora), (Instr.asra, 0x47, .asra), (Instr.asla, 0x48, .asla), (Instr.rola, 0x49, .rola),
   (Instr.deca, 0x4A, .deca), (Instr.inca, 0x4C, .inca), (Instr.tsta, 0x4D, .tsta), (Instr.clra, 0x4F, .clra),
   (Instr.negb, 0x50, .negb), (Instr.comb, 0x53, .comb), (Instr.lsrb, 0x54, .lsrb), (Instr.rorb, 0x56, .rorb),
   (Instr.asrb, 0x57, .asrb), (Instr.aslb, 0x58, .aslb), (Instr.rolb, 0x59, .rolb), (Instr.decb, 0x5A, .decb),
   (Instr.incb, 0x5C, .incb), (Instr.tstb, 0x5D, .tstb), (Instr.clrb, 0x5F, .clrb)]

/-- The 33 rows of shape `None` in the domain of `QUIRK_EXTRA`: instruction, opcode, mnemonic (spec/opcode_table.json). -/
def quirkableRows : List ((Option Byte → Instr) × Byte × Mnemonic) :=
  [(Instr.lsrd, 0x04, .lsrd), (Instr.asld, 0x05, .asld), (Instr.tap, 0x06, .tap), (Instr.tpa, 0x07, .tpa),
   (Instr.inx, 0x08, .inx), (Instr.dex, 0x09, .dex), (Instr.clv, 0x0A, .clv), (Instr.sev, 0x0B, .sev),
   (Instr.clc, 0x0C, .clc), (Instr.sec, 0x0D, .sec), (Instr.cli, 0x0E, .cli), (Instr.sei, 0x0F, .sei),
   (Instr.sba, 0x10, .sba), (Instr.cba, 0x11, .cba), (Instr.tab, 0x16, .tab), (Instr.tba, 0x17, .tba),
   (Instr.xgdx, 0x18, .xgdx), (Instr.daa, 0x19, .daa), (Instr.slp, 0x1A, .slp), (Instr.aba, 0x1B, .aba),
   (Instr.ins, 0x31, .ins), (Instr.pulb, 0x33, .pulb), (Instr.des, 0x34, .des), (Instr.txs, 0x35, .txs),
   (Instr.psha, 0x36, .psha), (Instr.pshb, 0x37, .pshb), (Instr.pulx, 0x38, .pulx), (Instr.abx, 0x3A, .abx),
   (Instr.rti, 0x3B, .rti), (Instr.pshx, 0x3C, .pshx), (Instr.mul, 0x3D, .mul), (Instr.wai, 0x3E, .wai),
   (Instr.swi, 0x3F, .swi)]

/-- The three rows the source says carry `ByteAddress`: instruction, opcode, mnemonic (spec/opcode_table.json). -/
def quirkRows : List ((Byte → Instr) × Byte × Mnemonic) :=
  [(Instr.tsx, 0x30, .tsx), (Instr.pula, 0x32, .pula), (Instr.rts, 0x39, .rts)]

/-- The 16 relative branches: instruction, opcode, mnemonic (spec/opcode_table.json). -/
def branchRows : List ((Byte → Instr) × Byte × Mnemonic) :=
  [(Instr.bra, 0x20, .bra), (Instr.brn, 0x21, .brn), (Instr.bhi, 0x22, .bhi), (Instr.bls, 0x23, .bls),
   (Instr.bcc, 0x24, .bcc), (Instr.bcs, 0x25, .bcs), (Instr.bne, 0x26, .bne), (Instr.beq, 0x27, .beq),
   (Instr.bvc, 0x28, .bvc), (Instr.bvs, 0x29, .bvs), (Instr.bpl, 0x2A, .bpl), (Instr.bmi, 0x2B, .bmi),
   (Instr.bge, 0x2C, .bge), (Instr.blt, 0x2D, .blt), (Instr.bgt, 0x2E, .bgt), (Instr.ble, 0x2F, .ble)]

/-- The read-modify-write rows, indexed: instruction, opcode, mnemonic (spec/opcode_table.json). -/
def rmwIndexedRows : List ((Byte → Instr) × Byte × Mnemonic) :=
  [(Instr.negInd, 0x60, .neg), (Instr.comInd, 0x63, .com), (Instr.lsrInd, 0x64, .lsr), (Instr.rorInd, 0x66, .ror),
   (Instr.asrInd, 0x67, .asr), (Instr.aslInd, 0x68, .asl), (Instr.rolInd, 0x69, .rol), (Instr.decInd, 0x6A, .dec),
   (Instr.incInd, 0x6C, .inc), (Instr.tstInd, 0x6D, .tst), (Instr.clrInd, 0x6F, .clr)]

/-- The read-modify-write rows, extended: instruction, opcode, mnemonic (spec/opcode_table.json). -/
def rmwExtendedRows : List ((Word → Instr) × Byte × Mnemonic) :=
  [(Instr.negExt, 0x70, .neg), (Instr.comExt, 0x73, .com), (Instr.lsrExt, 0x74, .lsr), (Instr.rorExt, 0x76, .ror),
   (Instr.asrExt, 0x77, .asr), (Instr.aslExt, 0x78, .asl), (Instr.rolExt, 0x79, .rol), (Instr.decExt, 0x7A, .dec),
   (Instr.incExt, 0x7C, .inc), (Instr.tstExt, 0x7D, .tst), (Instr.clrExt, 0x7F, .clr)]

/-- `aim`, `oim`, `eim`, `tim`, immediate and indexed: instruction, opcode, mnemonic (spec/opcode_table.json). -/
def bitIndexedRows : List ((Byte → Byte → Instr) × Byte × Mnemonic) :=
  [(Instr.aimImmInd, 0x61, .aim), (Instr.oimImmInd, 0x62, .oim), (Instr.eimImmInd, 0x65, .eim),
   (Instr.timImmInd, 0x6B, .tim)]

/-- `aim`, `oim`, `eim`, `tim`, immediate and direct: instruction, opcode, mnemonic (spec/opcode_table.json). -/
def bitDirectRows : List ((Byte → Byte → Instr) × Byte × Mnemonic) :=
  [(Instr.aimImmDir, 0x71, .aim), (Instr.oimImmDir, 0x72, .oim), (Instr.eimImmDir, 0x75, .eim),
   (Instr.timImmDir, 0x7B, .tim)]

/-- The rows with an 8-bit literal: instruction, opcode, mnemonic (spec/opcode_table.json). -/
def byteImmediateRows : List ((Byte → Instr) × Byte × Mnemonic) :=
  [(Instr.subaImm, 0x80, .suba), (Instr.cmpaImm, 0x81, .cmpa), (Instr.sbcaImm, 0x82, .sbca),
   (Instr.andaImm, 0x84, .anda), (Instr.bitaImm, 0x85, .bita), (Instr.ldaaImm, 0x86, .ldaa),
   (Instr.eoraImm, 0x88, .eora), (Instr.adcaImm, 0x89, .adca), (Instr.oraaImm, 0x8A, .oraa),
   (Instr.addaImm, 0x8B, .adda), (Instr.subbImm, 0xC0, .subb), (Instr.cmpbImm, 0xC1, .cmpb),
   (Instr.sbcbImm, 0xC2, .sbcb), (Instr.andbImm, 0xC4, .andb), (Instr.bitbImm, 0xC5, .bitb),
   (Instr.ldabImm, 0xC6, .ldab), (Instr.eorbImm, 0xC8, .eorb), (Instr.adcbImm, 0xC9, .adcb),
   (Instr.orabImm, 0xCA, .orab), (Instr.addbImm, 0xCB, .addb)]

/-- The rows with a 16-bit literal: instruction, opcode, mnemonic (spec/opcode_table.json). -/
def wordImmediateRows : List ((Word → Instr) × Byte × Mnemonic) :=
  [(Instr.subdImm, 0x83, .subd), (Instr.cpxImm, 0x8C, .cpx), (Instr.ldsImm, 0x8E, .lds), (Instr.adddImm, 0xC3, .addd),
   (Instr.lddImm, 0xCC, .ldd), (Instr.ldxImm, 0xCE, .ldx)]

/-- The accumulator and index-register rows with a direct-page address: instruction, opcode, mnemonic (spec/opcode_table.json). -/
def directRows : List ((Byte → Instr) × Byte × Mnemonic) :=
  [(Instr.subaDir, 0x90, .suba), (Instr.cmpaDir, 0x91, .cmpa), (Instr.sbcaDir, 0x92, .sbca),
   (Instr.subdDir, 0x93, .subd), (Instr.andaDir, 0x94, .anda), (Instr.bitaDir, 0x95, .bita),
   (Instr.ldaaDir, 0x96, .ldaa), (Instr.staaDir, 0x97, .staa), (Instr.eoraDir, 0x98, .eora),
   (Instr.adcaDir, 0x99, .adca), (Instr.oraaDir, 0x9A, .oraa), (Instr.addaDir, 0x9B, .adda),
   (Instr.cpxDir, 0x9C, .cpx), (Instr.ldsDir, 0x9E, .lds), (Instr.stsDir, 0x9F, .sts), (Instr.subbDir, 0xD0, .subb),
   (Instr.cmpbDir, 0xD1, .cmpb), (Instr.sbcbDir, 0xD2, .sbcb), (Instr.adddDir, 0xD3, .addd),
   (Instr.andbDir, 0xD4, .andb), (Instr.bitbDir, 0xD5, .bitb), (Instr.ldabDir, 0xD6, .ldab),
   (Instr.stabDir, 0xD7, .stab), (Instr.eorbDir, 0xD8, .eorb), (Instr.adcbDir, 0xD9, .adcb),
   (Instr.orabDir, 0xDA, .orab), (Instr.addbDir, 0xDB, .addb), (Instr.lddDir, 0xDC, .ldd), (Instr.stdDir, 0xDD, .std),
   (Instr.ldxDir, 0xDE, .ldx), (Instr.stxDir, 0xDF, .stx)]

/-- The accumulator and index-register rows, indexed: instruction, opcode, mnemonic (spec/opcode_table.json). -/
def indexedRows : List ((Byte → Instr) × Byte × Mnemonic) :=
  [(Instr.subaInd, 0xA0, .suba), (Instr.cmpaInd, 0xA1, .cmpa), (Instr.sbcaInd, 0xA2, .sbca),
   (Instr.subdInd, 0xA3, .subd), (Instr.andaInd, 0xA4, .anda), (Instr.bitaInd, 0xA5, .bita),
   (Instr.ldaaInd, 0xA6, .ldaa), (Instr.staaInd, 0xA7, .staa), (Instr.eoraInd, 0xA8, .eora),
   (Instr.adcaInd, 0xA9, .adca), (Instr.oraaInd, 0xAA, .oraa), (Instr.addaInd, 0xAB, .adda),
   (Instr.cpxInd, 0xAC, .cpx), (Instr.ldsInd, 0xAE, .lds), (Instr.stsInd, 0xAF, .sts), (Instr.subbInd, 0xE0, .subb),
   (Instr.cmpbInd, 0xE1, .cmpb), (Instr.sbcbInd, 0xE2, .sbcb), (Instr.adddInd, 0xE3, .addd),
   (Instr.andbInd, 0xE4, .andb), (Instr.bitbInd, 0xE5, .bitb), (Instr.ldabInd, 0xE6, .ldab),
   (Instr.stabInd, 0xE7, .stab), (Instr.eorbInd, 0xE8, .eorb), (Instr.adcbInd, 0xE9, .adcb),
   (Instr.orabInd, 0xEA, .orab), (Instr.addbInd, 0xEB, .addb), (Instr.lddInd, 0xEC, .ldd), (Instr.stdInd, 0xED, .std),
   (Instr.ldxInd, 0xEE, .ldx), (Instr.stxInd, 0xEF, .stx)]

/-- The accumulator and index-register rows, extended: instruction, opcode, mnemonic (spec/opcode_table.json). -/
def extendedRows : List ((Word → Instr) × Byte × Mnemonic) :=
  [(Instr.subaExt, 0xB0, .suba), (Instr.cmpaExt, 0xB1, .cmpa), (Instr.sbcaExt, 0xB2, .sbca),
   (Instr.subdExt, 0xB3, .subd), (Instr.andaExt, 0xB4, .anda), (Instr.bitaExt, 0xB5, .bita),
   (Instr.ldaaExt, 0xB6, .ldaa), (Instr.staaExt, 0xB7, .staa), (Instr.eoraExt, 0xB8, .eora),
   (Instr.adcaExt, 0xB9, .adca), (Instr.oraaExt, 0xBA, .oraa), (Instr.addaExt, 0xBB, .adda),
   (Instr.cpxExt, 0xBC, .cpx), (Instr.ldsExt, 0xBE, .lds), (Instr.stsExt, 0xBF, .sts), (Instr.subbExt, 0xF0, .subb),
   (Instr.cmpbExt, 0xF1, .cmpb), (Instr.sbcbExt, 0xF2, .sbcb), (Instr.adddExt, 0xF3, .addd),
   (Instr.andbExt, 0xF4, .andb), (Instr.bitbExt, 0xF5, .bitb), (Instr.ldabExt, 0xF6, .ldab),
   (Instr.stabExt, 0xF7, .stab), (Instr.eorbExt, 0xF8, .eorb), (Instr.adcbExt, 0xF9, .adcb),
   (Instr.orabExt, 0xFA, .orab), (Instr.addbExt, 0xFB, .addb), (Instr.lddExt, 0xFC, .ldd), (Instr.stdExt, 0xFD, .std),
   (Instr.ldxExt, 0xFE, .ldx)]

end Sys2Proof.Expect

section Statements

open Sys2Proof Sys2Proof.Machine Sys2Proof.Expect

/-- With at least one byte in the window, each of nop 0x01, nega 0x40, coma 0x43, lsra 0x44, rora 0x46, asra 0x47,
asla 0x48, rola 0x49, deca 0x4A, inca 0x4C, tsta 0x4D, clra 0x4F, negb 0x50, comb 0x53, lsrb 0x54, rorb 0x56, asrb
0x57, aslb 0x58, rolb 0x59, decb 0x5A, incb 0x5C, tstb 0x5D, clrb 0x5F answers the next state whose outputs are those
of a row of shape None: length 1, no operand, category NONE, no edges, no tokens, next_addr = addr + 1 mod 65536. The
inputs stay as they are. The rows named are the spec's own choice of the default table (D3; log entry 6). -/
def Obligations.PlainRowsComplete : Prop :=
  ∀ s : State, 1 ≤ s.avail.toNat → ∀ p ∈ plainRows,
    exec p.1 s = .next { s with out := inherent p.2.1 p.2.2 s.addr }

/-- With at least one byte in the window, each of lsrd 0x04, asld 0x05, tap 0x06, tpa 0x07, inx 0x08, dex 0x09, clv
0x0A, sev 0x0B, clc 0x0C, sec 0x0D, cli 0x0E, sei 0x0F, sba 0x10, cba 0x11, tab 0x16, tba 0x17, xgdx 0x18, daa 0x19,
slp 0x1A, aba 0x1B, ins 0x31, pulb 0x33, des 0x34, txs 0x35, psha 0x36, pshb 0x37, pulx 0x38, abx 0x3A, rti 0x3B,
pshx 0x3C, mul 0x3D, wai 0x3E, swi 0x3F, in its own one-byte form, answers the next state whose outputs are those of
a row of shape None. The inputs stay as they are. The rows named are the spec's own choice of the default table (D3;
log entry 6). -/
def Obligations.QuirkableRowsComplete : Prop :=
  ∀ s : State, 1 ≤ s.avail.toNat → ∀ p ∈ quirkableRows,
    exec (p.1 none) s = .next { s with out := inherent p.2.1 p.2.2 s.addr }

/-- With at least two bytes in the window, each row that QUIRK_EXTRA may hold (lsrd 0x04, asld 0x05, tap 0x06, tpa
0x07, inx 0x08, dex 0x09, clv 0x0A, sev 0x0B, clc 0x0C, sec 0x0D, cli 0x0E, sei 0x0F, sba 0x10, cba 0x11, tab 0x16,
tba 0x17, xgdx 0x18, daa 0x19, slp 0x1A, aba 0x1B, ins 0x31, pulb 0x33, des 0x34, txs 0x35, psha 0x36, pshb 0x37,
pulx 0x38, abx 0x3A, rti 0x3B, pshx 0x3C, mul 0x3D, wai 0x3E, swi 0x3F), in the two-byte form the parameter gives it,
answers the next state whose outputs are those of a ByteAddress row: operand zero-extended, category NONE, no edges,
next_addr = addr + 2 mod 65536. The inputs stay as they are. QUIRK_EXTRA is the spec's own parameter (D4; log entry
6). -/
def Obligations.QuirkExtraRowsComplete : Prop :=
  ∀ (s : State) (b : Byte), 2 ≤ s.avail.toNat → ∀ p ∈ quirkableRows,
    exec (p.1 (some b)) s =
      .next { s with out := plainByte p.2.1 p.2.2 .byteAddress b (addrTokens b) s.addr }

/-- With at least two bytes in the window, each of tsx 0x30, pula 0x32, rts 0x39 answers the next state whose outputs
are those of a ByteAddress row: the byte after the opcode is the operand, length 2, category NONE, no edges,
next_addr = addr + 2 mod 65536, so a linear sweep steps over that byte. The inputs stay as they are. The rows named
are the spec's own choice of the default table (D3; log entry 6). The opcodes 0x30, 0x32, 0x39 are general knowledge
(K7). -/
def Obligations.QuirkRowsComplete : Prop :=
  ∀ (s : State) (b : Byte), 2 ≤ s.avail.toNat → ∀ p ∈ quirkRows,
    exec (p.1 b) s =
      .next { s with out := plainByte p.2.1 p.2.2 .byteAddress b (addrTokens b) s.addr }

/-- With at least two bytes in the window, each of bra 0x20, brn 0x21, bhi 0x22, bls 0x23, bcc 0x24, bcs 0x25, bne
0x26, beq 0x27, bvc 0x28, bvs 0x29, bpl 0x2A, bmi 0x2B, bge 0x2C, blt 0x2D, bgt 0x2E, ble 0x2F answers the next state
with category COND, a taken edge to addr + sext(displacement) + 2 and a fall-through edge to addr + 2, both mod
65536, and the displacement byte shown raw. The inputs stay as they are. The rows named are the spec's own choice of
the default table (D3; log entry 6). -/
def Obligations.BranchRowsComplete : Prop :=
  ∀ (s : State) (b : Byte), 2 ≤ s.avail.toNat → ∀ p ∈ branchRows,
    exec (p.1 b) s =
      .next { s with
        out := oneByte p.2.1 p.2.2 .byteAddress b .cond (some ⟨.taken, s.addr + b.signExtend 16 + 2⟩)
          (some ⟨.fallthrough, s.addr + 2⟩) (addrTokens b) s.addr }

/-- With at least two bytes in the window, bsr 0x8D answers the next state whose outputs are those of a ByteAddress
row in category NONE, without edges. The inputs stay as they are. The rows named are the spec's own choice of the
default table (D3; log entry 6). -/
def Obligations.BsrCompletes : Prop :=
  ∀ (s : State) (b : Byte), 2 ≤ s.avail.toNat →
    exec (.bsr b) s = .next { s with out := plainByte 0x8D .bsr .byteAddress b (addrTokens b) s.addr }

/-- jmp 0x6E with two bytes in the window, and jmp 0x7E with three, answer the next state with category JUMP, one
unconditional edge to the raw operand value (zero-extended for 0x6E) and no second edge. The inputs stay as they are.
The rows named are the spec's own choice of the default table (D3; log entry 6). -/
def Obligations.JmpRowsComplete : Prop :=
  (∀ (s : State) (b : Byte), 2 ≤ s.avail.toNat →
    exec (.jmpInd b) s =
      .next { s with
        out := oneByte 0x6E .jmp .indexed b .jump (some ⟨.uncond, b.setWidth 16⟩) Option.none (indexedTokens b)
          s.addr }) ∧
  (∀ (s : State) (w : Word), 3 ≤ s.avail.toNat →
    exec (.jmpExt w) s =
      .next { s with
        out := twoBytes 0x7E .jmp .wordAddress w (hiByte w) (loByte w) .jump (some ⟨.uncond, w⟩)
          (wordAddrTokens w) s.addr })

/-- jsr 0x9D and 0xAD with two bytes in the window, and jsr 0xBD with three, answer the next state with category
CALL, one call edge to the raw operand value (zero-extended for one byte) and no second edge. The inputs stay as they
are. The rows named are the spec's own choice of the default table (D3; log entry 6). -/
def Obligations.JsrRowsComplete : Prop :=
  (∀ (s : State) (b : Byte), 2 ≤ s.avail.toNat →
    exec (.jsrDir b) s =
      .next { s with
        out := oneByte 0x9D .jsr .byteAddress b .call (some ⟨.call, b.setWidth 16⟩) Option.none (addrTokens b)
          s.addr }) ∧
  (∀ (s : State) (b : Byte), 2 ≤ s.avail.toNat →
    exec (.jsrInd b) s =
      .next { s with
        out := oneByte 0xAD .jsr .indexed b .call (some ⟨.call, b.setWidth 16⟩) Option.none (indexedTokens b)
          s.addr }) ∧
  (∀ (s : State) (w : Word), 3 ≤ s.avail.toNat →
    exec (.jsrExt w) s =
      .next { s with
        out := twoBytes 0xBD .jsr .wordAddress w (hiByte w) (loByte w) .call (some ⟨.call, w⟩)
          (wordAddrTokens w) s.addr })

/-- With at least two bytes in the window, each of neg 0x60, com 0x63, lsr 0x64, ror 0x66, asr 0x67, asl 0x68, rol
0x69, dec 0x6A, inc 0x6C, tst 0x6D, clr 0x6F answers the next state whose outputs are those of an Indexed row: the
offset zero-extended and shown with the index register, length 2, category NONE, no edges. The inputs stay as they
are. The rows named are the spec's own choice of the default table (D3; log entry 6). -/
def Obligations.RmwIndexedRowsComplete : Prop :=
  ∀ (s : State) (b : Byte), 2 ≤ s.avail.toNat → ∀ p ∈ rmwIndexedRows,
    exec (p.1 b) s =
      .next { s with out := plainByte p.2.1 p.2.2 .indexed b (indexedTokens b) s.addr }

/-- With all three bytes in the window, each of neg 0x70, com 0x73, lsr 0x74, ror 0x76, asr 0x77, asl 0x78, rol 0x79,
dec 0x7A, inc 0x7C, tst 0x7D, clr 0x7F answers the next state whose outputs are those of a WordAddress row: the
big-endian address, length 3, category NONE, no edges. The inputs stay as they are. The rows named are the spec's own
choice of the default table (D3; log entry 6). -/
def Obligations.RmwExtendedRowsComplete : Prop :=
  ∀ (s : State) (w : Word), 3 ≤ s.avail.toNat → ∀ p ∈ rmwExtendedRows,
    exec (p.1 w) s =
      .next { s with out := plainWord p.2.1 p.2.2 .wordAddress w (wordAddrTokens w) s.addr }

/-- With all three bytes in the window, each of aim 0x61, oim 0x62, eim 0x65, tim 0x6B, with operand bytes hi then
lo, answers the next state whose operand value is 256 hi + lo, fhi = hi (the immediate), flo = lo, the two fields
shown separately, length 3, category NONE, no edges. The inputs stay as they are. The rows named are the spec's own
choice of the default table (D3; log entry 6). -/
def Obligations.BitImmediateIndexedRowsComplete : Prop :=
  ∀ (s : State) (hi lo : Byte), 3 ≤ s.avail.toNat → ∀ p ∈ bitIndexedRows,
    exec (p.1 hi lo) s =
      .next { s with
        out := twoBytes p.2.1 p.2.2 .immediateIndexed (BitVec.ofNat 16 (256 * hi.toNat + lo.toNat)) hi lo .none Option.none
          [.text "#", .int (hex2 (hi.setWidth 16)) (hi.setWidth 16), .text ",",
            .int (hex2 (lo.setWidth 16)) (lo.setWidth 16), .text ",", .reg "x"] s.addr }

/-- With all three bytes in the window, each of aim 0x71, oim 0x72, eim 0x75, tim 0x7B, with operand bytes hi then
lo, answers the next state whose operand value is 256 hi + lo, fhi = hi (the immediate), flo = lo, the two fields
shown separately, length 3, category NONE, no edges. The inputs stay as they are. The rows named are the spec's own
choice of the default table (D3; log entry 6). -/
def Obligations.BitImmediateDirectRowsComplete : Prop :=
  ∀ (s : State) (hi lo : Byte), 3 ≤ s.avail.toNat → ∀ p ∈ bitDirectRows,
    exec (p.1 hi lo) s =
      .next { s with
        out := twoBytes p.2.1 p.2.2 .directMemory (BitVec.ofNat 16 (256 * hi.toNat + lo.toNat)) hi lo .none Option.none
          [.text "#", .int (hex2 (hi.setWidth 16)) (hi.setWidth 16), .text ",",
            .addr (hex2 (lo.setWidth 16)) (lo.setWidth 16)] s.addr }

/-- With at least two bytes in the window, each of suba 0x80, cmpa 0x81, sbca 0x82, anda 0x84, bita 0x85, ldaa 0x86,
eora 0x88, adca 0x89, oraa 0x8A, adda 0x8B, subb 0xC0, cmpb 0xC1, sbcb 0xC2, andb 0xC4, bitb 0xC5, ldab 0xC6, eorb
0xC8, adcb 0xC9, orab 0xCA, addb 0xCB answers the next state whose outputs are those of a ByteImmediate row: the
literal zero-extended, length 2, category NONE, no edges. The inputs stay as they are. The rows named are the spec's
own choice of the default table (D3; log entry 6). -/
def Obligations.AccumulatorImmediateRowsComplete : Prop :=
  ∀ (s : State) (b : Byte), 2 ≤ s.avail.toNat → ∀ p ∈ byteImmediateRows,
    exec (p.1 b) s =
      .next { s with out := plainByte p.2.1 p.2.2 .byteImmediate b (immediateTokens b) s.addr }

/-- With all three bytes in the window, each of subd 0x83, cpx 0x8C, lds 0x8E, addd 0xC3, ldd 0xCC, ldx 0xCE answers
the next state whose outputs are those of a WordImmediate row: the big-endian literal, length 3, category NONE, no
edges. The inputs stay as they are. The rows named are the spec's own choice of the default table (D3; log entry 6).
-/
def Obligations.WordImmediateRowsComplete : Prop :=
  ∀ (s : State) (w : Word), 3 ≤ s.avail.toNat → ∀ p ∈ wordImmediateRows,
    exec (p.1 w) s =
      .next { s with out := plainWord p.2.1 p.2.2 .wordImmediate w (wordImmediateTokens w) s.addr }

/-- With at least two bytes in the window, each of suba 0x90, cmpa 0x91, sbca 0x92, subd 0x93, anda 0x94, bita 0x95,
ldaa 0x96, staa 0x97, eora 0x98, adca 0x99, oraa 0x9A, adda 0x9B, cpx 0x9C, lds 0x9E, sts 0x9F, subb 0xD0, cmpb 0xD1,
sbcb 0xD2, addd 0xD3, andb 0xD4, bitb 0xD5, ldab 0xD6, stab 0xD7, eorb 0xD8, adcb 0xD9, orab 0xDA, addb 0xDB, ldd
0xDC, std 0xDD, ldx 0xDE, stx 0xDF answers the next state whose outputs are those of a ByteAddress row: the address
byte zero-extended, length 2, category NONE, no edges. The inputs stay as they are. The rows named are the spec's own
choice of the default table (D3; log entry 6). -/
def Obligations.DirectRowsComplete : Prop :=
  ∀ (s : State) (b : Byte), 2 ≤ s.avail.toNat → ∀ p ∈ directRows,
    exec (p.1 b) s =
      .next { s with out := plainByte p.2.1 p.2.2 .byteAddress b (addrTokens b) s.addr }

/-- With at least two bytes in the window, each of suba 0xA0, cmpa 0xA1, sbca 0xA2, subd 0xA3, anda 0xA4, bita 0xA5,
ldaa 0xA6, staa 0xA7, eora 0xA8, adca 0xA9, oraa 0xAA, adda 0xAB, cpx 0xAC, lds 0xAE, sts 0xAF, subb 0xE0, cmpb 0xE1,
sbcb 0xE2, addd 0xE3, andb 0xE4, bitb 0xE5, ldab 0xE6, stab 0xE7, eorb 0xE8, adcb 0xE9, orab 0xEA, addb 0xEB, ldd
0xEC, std 0xED, ldx 0xEE, stx 0xEF answers the next state whose outputs are those of an Indexed row: the offset
zero-extended and shown with the index register, length 2, category NONE, no edges. The inputs stay as they are. The
rows named are the spec's own choice of the default table (D3; log entry 6). -/
def Obligations.IndexedRowsComplete : Prop :=
  ∀ (s : State) (b : Byte), 2 ≤ s.avail.toNat → ∀ p ∈ indexedRows,
    exec (p.1 b) s =
      .next { s with out := plainByte p.2.1 p.2.2 .indexed b (indexedTokens b) s.addr }

/-- With all three bytes in the window, each of suba 0xB0, cmpa 0xB1, sbca 0xB2, subd 0xB3, anda 0xB4, bita 0xB5,
ldaa 0xB6, staa 0xB7, eora 0xB8, adca 0xB9, oraa 0xBA, adda 0xBB, cpx 0xBC, lds 0xBE, sts 0xBF, subb 0xF0, cmpb 0xF1,
sbcb 0xF2, addd 0xF3, andb 0xF4, bitb 0xF5, ldab 0xF6, stab 0xF7, eorb 0xF8, adcb 0xF9, orab 0xFA, addb 0xFB, ldd
0xFC, std 0xFD, ldx 0xFE answers the next state whose outputs are those of a WordAddress row: the big-endian address,
length 3, category NONE, no edges. The inputs stay as they are. The rows named are the spec's own choice of the
default table (D3; log entry 6). -/
def Obligations.ExtendedRowsComplete : Prop :=
  ∀ (s : State) (w : Word), 3 ≤ s.avail.toNat → ∀ p ∈ extendedRows,
    exec (p.1 w) s =
      .next { s with out := plainWord p.2.1 p.2.2 .wordAddress w (wordAddrTokens w) s.addr }

/-- The spec gives the input ports no value at reset; the model starts with addr, win and avail 0 (DESIGN CHOICE, log
entry 1), and with a last answer that is what the output ports show for those inputs: it is settled and coherent, and
the host's contract on avail holds. The field of the last answer is the model's own (log entry 8). -/
def Obligations.ResetPorts : Prop :=
  State.reset.addr = 0 ∧ State.reset.win = 0 ∧ State.reset.avail = 0 ∧
    Settled State.reset ∧ OutputsCoherent State.reset ∧ WindowInSpace State.reset

/-- Where the valid bytes of the window decode to an instruction that is well-formed for the configuration, a step at
that state is exec of that instruction at that state and nothing around it, under every value of QUIRK_EXTRA and for
the configured one. For a value that names an opcode outside the domain of QUIRK_EXTRA the statement rests on the
model's choice that the decoder and well-formedness ignore such an opcode (DESIGN CHOICE, log entry 20). -/
def Obligations.StepRunsDecodedInstruction : Prop :=
  (∀ (quirk : List Byte) (s : State) (i : Instr), decodeWith quirk s.bytes = .ok i → i.wfWith quirk = true →
    stepWith quirk s = exec i s) ∧
  (∀ (s : State) (i : Instr), decode s.bytes = .ok i → i.wf = true → step s = exec i s)

/-- Where the decoder reads an instruction from a word of the opcode table's numbering, a step on the ports that
present that word is exec of it there; the presented window keeps the host's contract, avail at most min(3, 65536 -
addr), and is whole where the space has three bytes from addr on. So where the operand bytes would lie past 0xFFFF
both sides are SHORT. Presenting a word is the model's stand-in for the host's read (log entry 3). -/
def Obligations.PresentedWordRuns : Prop :=
  ∀ (s : State) (nbits w : Nat),
    WindowInSpace (s.withFetchWord nbits w) ∧
    (s.addr.toNat ≤ 0xFFFD → WindowWhole (s.withFetchWord nbits w)) ∧
    ∀ i : Instr, decodeTableWord nbits w = some i →
      step (s.withFetchWord nbits w) = exec i (s.withFetchWord nbits w)

/-- The bytes of nine vectors of the spec, at least one per family, decode to the instructions the spec names: 01
nop, 30 40 tsx, 20 02 bra, 8D 10 bsr, 7E 20 00 jmp, 60 10 neg indexed, 75 AA 55 eim, 86 05 ldaa, CC AB CD ldd. The
rows 0x01, 0x20, 0x7E and 0x86 are attested by the source (R92); the rows 0x30, 0x8D, 0x60, 0x75 and 0xCC are
reference rows: they rest on the spec's own choice of the default table (D3, K6; log entry 6, PRESUMED) and hold of
that table only. The bytes 20 02 and 86 05 are vectors of section L1 (S2, S4). -/
def Obligations.WrittenWordsDecode : Prop :=
  decode [0x01] = .ok .nop ∧ decode [0x30, 0x40] = .ok (.tsx 0x40) ∧ decode [0x20, 0x02] = .ok (.bra 0x02) ∧
    decode [0x8D, 0x10] = .ok (.bsr 0x10) ∧ decode [0x7E, 0x20, 0x00] = .ok (.jmpExt 0x2000) ∧
    decode [0x60, 0x10] = .ok (.negInd 0x10) ∧ decode [0x75, 0xAA, 0x55] = .ok (.eimImmDir 0xAA 0x55) ∧
    decode [0x86, 0x05] = .ok (.ldaaImm 0x05) ∧ decode [0xCC, 0xAB, 0xCD] = .ok (.lddImm 0xABCD)

/-- For every instruction whose encoded form is longer than the valid part of the window, exec answers the next state
whose only output is the status SHORT: no mnemonic, length, operand or edge. The treatment of a short window is the
spec's decision D6 (log entry 2). -/
def Obligations.ShortWindowDrivesShort : Prop :=
  ∀ (i : Instr) (s : State), s.avail.toNat < (encode i).length → exec i s = .next { s with out := .short }

/-- For every instruction whose encoded form fits in the valid part of the window, exec answers a next state with
status OK and the inputs unchanged; its ilen is the length of the encoded form, and the encoded form is the opcode
output followed by flo for oplen 1, and by fhi and flo for oplen 2. -/
def Obligations.ExecShowsEveryByte : Prop :=
  ∀ (i : Instr) (s : State), (encode i).length ≤ s.avail.toNat →
    ∃ r, exec i s = .next { s with out := .ok r } ∧ r.ilen.toNat = (encode i).length ∧
      encode i = r.opcode :: (if r.oplen = 0 then [] else if r.oplen = 1 then [r.flo] else [r.fhi, r.flo])

/-- From every state, under every list of opcodes as QUIRK_EXTRA (one outside the domain is ignored: DESIGN CHOICE,
log entry 20), a step answers a next state that differs at most in the outputs. There is no fault, no refusal and no
trap, and the block never advances addr. -/
def Obligations.StepOnlyDrivesOutputs : Prop :=
  ∀ (quirk : List Byte) (s : State), ∃ o : Outputs, stepWith quirk s = .next { s with out := o }

/-- For every two states with equal input ports, whatever their last answers (all that an earlier decode leaves
behind in the model), the steps answer next states with equal outputs. So no cache or cursor shows. -/
def Obligations.EqualInputsGiveEqualOutputs : Prop :=
  ∀ s s' : State, s'.addr = s.addr → s'.win = s.win → s'.avail = s.avail →
    ∃ t t' : State, step s = .next t ∧ step s' = .next t' ∧ t'.out = t.out

/-- For every admissible value of QUIRK_EXTRA and every state, the step by decoded instruction answers the next state
whose outputs are the function Decode of 30_encoding.md of the inputs, on the reference table with that QUIRK_EXTRA.
The ports, the quirk parameter and the short and undefined outputs are the spec's decisions named in cites (log
entries 2, 6). -/
def Obligations.StepRefinesBlockDecode : Prop :=
  ∀ quirk : List Byte, quirkExtraOk quirk = true → ∀ s : State,
    stepWith quirk s =
      .next { s with out := blockDecode (withQuirk quirk referenceRom) s.addr s.win s.avail }

/-- For every value of QUIRK_EXTRA, every instruction well-formed under it, with every operand, and any bytes after
it, the decoder reads that instruction from its encoding. For a value that names an opcode outside the domain of
QUIRK_EXTRA the statement rests on the model's choice that the decoder and well-formedness ignore such an opcode
(DESIGN CHOICE, log entry 20). -/
def Obligations.DecodeOfEncode : Prop :=
  ∀ (quirk : List Byte) (i : Instr) (rest : List Byte), i.wfWith quirk = true →
    decodeWith quirk (encode i ++ rest) = .ok i

/-- For every value of QUIRK_EXTRA and all bytes, if the decoder answers an instruction, the instruction is
well-formed under that value and the bytes are its encoding followed by bytes the decoder did not use: no two byte
strings of one instruction differ in a used bit. For a value that names an opcode outside the domain of QUIRK_EXTRA
the statement rests on the model's choice that the decoder and well-formedness ignore such an opcode (DESIGN CHOICE,
log entry 20). -/
def Obligations.EncodeOfDecode : Prop :=
  ∀ (quirk : List Byte) (bytes : List Byte) (i : Instr), decodeWith quirk bytes = .ok i →
    i.wfWith quirk = true ∧ ∃ rest, bytes = encode i ++ rest

/-- From every state in which the host keeps its contract on avail, whatever its last answer, a step answers a state
that keeps the contract, whose answer is what its output ports show, the function of its inputs, and whose outputs
fit each other: on OK they name a row of the configured table with its lengths, operand, fields, category, edges and
next_addr; on UNDEFINED they are those of an absent opcode; on SHORT there is none. -/
def Obligations.StepEstablishesInvariant : Prop :=
  ∀ s : State, WindowInSpace s → ∀ t : State, step s = .next t →
    WindowInSpace t ∧ Settled t ∧ OutputsCoherent t

/-- With at least one byte in the window, an opcode without a row makes a step answer UNDEFINED with the opcode byte,
the sentinel, oplen 0, ilen 1, no operand, category NONE, no edges, no tokens and next_addr = addr + 1 mod 65536,
whatever follows the opcode. Of the 27 opcodes only 0xFF is attested (D3; log entry 6), and next_addr is decision D9.
-/
def Obligations.AbsentOpcodesAreUndefined : Prop :=
  ∀ s : State, 1 ≤ s.avail.toNat → winB0 s.win ∈ absentOpcodes →
    step s = .next { s with out := Expect.undefined (winB0 s.win) s.addr }

/-- With three valid bytes a step answers a next state for every one of the 256 opcode bytes: UNDEFINED for the 27
absent ones of the default table (D3; log entry 6), OK for all others, never SHORT. -/
def Obligations.WholeWindowNeverShort : Prop :=
  ∀ s : State, s.avail.toNat = 3 →
    ∃ t, step s = .next t ∧
      t.out.status = if winB0 s.win ∈ absentOpcodes then .undefined else .ok

/-- For every state, the status after a step is SHORT for an empty window, otherwise UNDEFINED for an opcode without
a row whatever avail is, otherwise SHORT where the row's shape needs more bytes than are valid, otherwise OK. The
order is the spec's inference (its mark on R705). -/
def Obligations.OutcomePriority : Prop :=
  ∀ s : State, ∃ t, step s = .next t ∧
    t.out.status =
      if s.avail = 0 then .short
      else
        match romLookup configuredRom (winB0 s.win) with
        | none => .undefined
        | some e => if s.avail.toNat < 1 + e.shape.len then .short else .ok

/-- Whenever a step decodes to category COND, the high byte of the operand value is 0, the offset signed8(opval[7:0])
lies in -128 to +127 and is the two's-complement value of the sign-extended byte, and there is a taken edge, whose
target is (addr + offset + 2) mod 65536; that is also the 16-bit sum of addr, the sign-extended byte and 2. The 2 is
fixed. -/
def Obligations.BranchTakenTarget : Prop :=
  ∀ (s t : State) (r : DecodeRecord), step s = .next t → t.out = .ok r → r.cat = .cond →
    hiByte r.opval = 0 ∧
    -128 ≤ signed8 (loByte r.opval) ∧ signed8 (loByte r.opval) ≤ 127 ∧
    (sext16 (loByte r.opval)).toInt = signed8 (loByte r.opval) ∧
    (∃ e ∈ r.edges, e.kind = .taken) ∧
    ∀ e ∈ r.edges, e.kind = .taken →
      (e.target.toNat : Int) = ((s.addr.toNat : Int) + signed8 (loByte r.opval) + 2) % 65536 ∧
      e.target = s.addr + sext16 (loByte r.opval) + 2

/-- After every step with status OK or UNDEFINED, next_addr is (addr + ilen) mod 65536; a taken edge goes to (addr +
signed displacement + 2) mod 65536 and a fall-through edge to next_addr; every other edge carries the operand value
unchanged, so these are the only sums. The spec's example, address 0xFFFE with offset +10, gives 0x000A. -/
def Obligations.AddressAluWraps : Prop :=
  (∀ (s t : State) (r : DecodeRecord), step s = .next t → t.out.record? = some r →
    r.nextAddr.toNat = (s.addr.toNat + r.ilen.toNat) % 65536 ∧
    ∀ e ∈ r.edges,
      match e.kind with
      | .taken => (e.target.toNat : Int) = ((s.addr.toNat : Int) + signed8 (loByte r.opval) + 2) % 65536
      | .fallthrough => e.target = r.nextAddr
      | .call => e.target = r.opval
      | .uncond => e.target = r.opval) ∧
  takenTarget 0xFFFE (zext16 10) = 0x000A

/-- Whenever a step decodes to category JUMP, the first edge is unconditional and its target is the operand value,
which is the operand bytes as assembled with no arithmetic, and the second edge is not valid. -/
def Obligations.JumpEdge : Prop :=
  ∀ (s t : State) (r : DecodeRecord), step s = .next t → t.out = .ok r → r.cat = .jump →
    r.opval = operandValue r.shape (winB1 s.win) (winB2 s.win) ∧ r.e0 = some ⟨.uncond, r.opval⟩ ∧
    r.e1 = Option.none

/-- After every step with status OK the mnemonic is a known one and the category is COND for the 16 relative
branches, CALL for jsr, JUMP for jmp and NONE for every other; COND has a taken and a fall-through edge, CALL only a
call edge to the operand value, JUMP only an unconditional one, NONE no edge. The branch set and the order of the
edges are the spec's decisions D21 and D8. -/
def Obligations.CategoryDecidesEdges : Prop :=
  ∀ (s t : State) (r : DecodeRecord), step s = .next t → t.out = .ok r →
    ∃ m, r.mnem = .known m ∧
      ((m ∈ branchMnemonics ∧ r.cat = .cond ∧ r.e0.map (fun e => e.kind) = some .taken ∧
          r.e1.map (fun e => e.kind) = some .fallthrough) ∨
       (m = .jsr ∧ r.cat = .call ∧ r.e0 = some ⟨.call, r.opval⟩ ∧ r.e1 = Option.none) ∨
       (m = .jmp ∧ r.cat = .jump ∧ r.e0 = some ⟨.uncond, r.opval⟩ ∧ r.e1 = Option.none) ∨
       (m ∉ branchMnemonics ∧ m ≠ .jsr ∧ m ≠ .jmp ∧ r.cat = .none ∧ r.e0 = Option.none ∧
          r.e1 = Option.none))

/-- After every step with status OK, fhi is opval / 256 and flo is opval mod 256; for DirectMemory and
ImmediateIndexed fhi is the first operand byte (the immediate) and flo the second (the direct-page address or the
indexed offset); for one-byte shapes fhi is 0. -/
def Obligations.FieldSplit : Prop :=
  ∀ (s t : State) (r : DecodeRecord), step s = .next t → t.out = .ok r →
    r.fhi.toNat = r.opval.toNat / 256 ∧ r.flo.toNat = r.opval.toNat % 256 ∧
    (r.shape = .directMemory ∨ r.shape = .immediateIndexed → r.fhi = winB1 s.win ∧ r.flo = winB2 s.win) ∧
    (r.shape.len = 1 → r.fhi = 0)

/-- For every state and every other address, the two steps agree on status, opcode, mnem, shape, oplen, ilen, opval,
fhi, flo and tokens, and also on opval_valid, the category, nop_byte, and which edges are valid with which kinds; so
only next_addr and the edge targets depend on addr. -/
def Obligations.AddressIndependence : Prop :=
  ∀ (s : State) (a : Word), ∃ t u : State, step s = .next t ∧ step { s with addr := a } = .next u ∧
    u.out.status = t.out.status ∧
    (t.out.record? = none ↔ u.out.record? = none) ∧
    ∀ r q : DecodeRecord, t.out.record? = some r → u.out.record? = some q →
      { q with nextAddr := r.nextAddr, e0 := r.e0, e1 := r.e1 } = r ∧
      q.e0.map (fun e => e.kind) = r.e0.map (fun e => e.kind) ∧
      q.e1.map (fun e => e.kind) = r.e1.map (fun e => e.kind)

/-- Every present entry of the configured table has 1 + length at most 3. After every step, on OK oplen is the length
of the shape of the matched entry, which is the shape output; on UNDEFINED oplen is 0; on both ilen is 1, 2 or 3 and
is 1 + oplen. -/
def Obligations.LengthBounds : Prop :=
  (∀ (op : Byte) (e : RomEntry), romLookup configuredRom op = some e → 1 + e.shape.len ≤ 3) ∧
  (∀ (s t : State) (r : DecodeRecord), step s = .next t → t.out = .ok r →
    ∃ e, romLookup configuredRom (winB0 s.win) = some e ∧ r.shape = e.shape ∧ r.oplen.toNat = e.shape.len) ∧
  (∀ (s t : State) (r : DecodeRecord), step s = .next t → t.out = .undefined r → r.oplen = 0) ∧
  (∀ (s t : State) (r : DecodeRecord), step s = .next t → t.out.record? = some r →
    (r.ilen = 1 ∨ r.ilen = 2 ∨ r.ilen = 3) ∧ r.ilen.toNat = 1 + r.oplen.toNat)

/-- After every step with a decoded length, ilen is 1 + len(shape) of the slot of the opcode byte, or 1 where that
slot is absent, regardless of the follow-on bytes; the lengths 1, 2 and 3 are the only ones. -/
def Obligations.LengthFromOpcodeByte : Prop :=
  ∀ (s t : State) (r : DecodeRecord), step s = .next t → t.out.record? = some r →
    (r.ilen.toNat =
      match romLookup configuredRom (winB0 s.win) with
      | some e => 1 + e.shape.len
      | none => 1) ∧
    (r.ilen = 1 ∨ r.ilen = 2 ∨ r.ilen = 3)

/-- After every step with a decoded length: ilen is 1 + oplen and lies in 1 to 3; a one-byte operand value is below
256; a step again answers the same state; and every window whose first ilen valid bytes are the same gives the same
outputs, whatever its other bytes and its avail, so no byte beyond 1 + oplen is read. -/
def Obligations.ConsumesOnlyItsBytes : Prop :=
  ∀ (s t : State) (r : DecodeRecord), step s = .next t → t.out.record? = some r →
    r.ilen.toNat = 1 + r.oplen.toNat ∧ 1 ≤ r.ilen.toNat ∧ r.ilen.toNat ≤ 3 ∧
    (r.oplen = 1 → r.opval.toNat < 256) ∧
    step t = .next t ∧
    ∀ (win : BitVec 24) (avail : BitVec 2),
      (validBytes win avail).take r.ilen.toNat = s.bytes.take r.ilen.toNat →
      step { s with win := win, avail := avail } = .next { s with win := win, avail := avail, out := t.out }

/-- Two windows with equal valid bytes give equal outputs, on every outcome. That unused bytes are ignored is the
spec's decision D2. -/
def Obligations.BytesBeyondAvailIgnored : Prop :=
  ∀ (s : State) (win : BitVec 24), validBytes win s.avail = validBytes s.win s.avail →
    ∃ t u : State, step s = .next t ∧ step { s with win := win } = .next u ∧ u.out = t.out

/-- When the host presents the window of its memory at an address and the step gives a length, the byte at that
address is the opcode; for oplen 2 the byte at addr + 1 is bits 15:8 of the operand value and fhi, and the byte at
addr + 2 is bits 7:0 and flo, so the first byte of a two-field operand is the high field; for oplen 1 the byte at
addr + 1 is the operand value. The metadata says big-endian, and nothing switches it. The window comes from the
memory of the host as log entry 10 holds it. -/
def Obligations.BigEndianOperandsFromMemory : Prop :=
  archMetadata.bigEndian = true ∧
  ∀ (s t : State) (mem : Memory) (a : Word) (r : DecodeRecord), step (s.present mem a) = .next t →
    t.out.record? = some r →
    mem.read a.toNat = some r.opcode ∧
    (r.oplen = 1 → ∃ b, mem.read (a.toNat + 1) = some b ∧ r.opval.toNat = b.toNat) ∧
    (r.oplen = 2 → ∃ hi lo, mem.read (a.toNat + 1) = some hi ∧ mem.read (a.toNat + 2) = some lo ∧
      r.opval.toNat = 256 * hi.toNat + lo.toNat ∧ r.fhi = hi ∧ r.flo = lo)

/-- After every step with status OK the opcode output is the first byte of the window; for oplen 2 the operand value
is 256 times the second byte plus the third, for every shape; for the two-field shapes the second byte is the high
field fhi and the third the low field flo. The metadata says big-endian. -/
def Obligations.BigEndianOperands : Prop :=
  archMetadata.bigEndian = true ∧
  ∀ (s t : State) (r : DecodeRecord), step s = .next t → t.out = .ok r →
    r.opcode = winB0 s.win ∧
    (r.oplen = 2 → r.opval.toNat = 256 * (winB1 s.win).toNat + (winB2 s.win).toNat) ∧
    (r.shape = .directMemory ∨ r.shape = .immediateIndexed → r.fhi = winB1 s.win ∧ r.flo = winB2 s.win)

/-- On every presented window avail is at most min(3, 65536 - addr); each valid byte is the byte of memory at its
address; and a byte is left out only where the space ends or where memory has no byte at it or before it in the
window. The bound is the spec's inference (its mark on R62); memory as the host's is the model's reading of the read
interface (log entry 10). -/
def Obligations.PresentedWindowEndsAtTheTop : Prop :=
  ∀ (s : State) (mem : Memory) (a : Word),
    WindowInSpace (s.present mem a) ∧
    (∀ k < (s.present mem a).avail.toNat, (s.present mem a).bytes[k]? = mem.read (a.toNat + k)) ∧
    (∀ k ≤ 2, (∀ j ≤ k, a.toNat + j < 65536 ∧ (mem.read (a.toNat + j)).isSome = true) →
      k < (s.present mem a).avail.toNat)

/-- After every step with status UNDEFINED the tokens are empty, neither edge is valid, and the instruction-text
query answers that there is no result. -/
def Obligations.UndefinedShowsNothing : Prop :=
  ∀ (s t : State) (r : DecodeRecord), step s = .next t → t.out = .undefined r →
    r.tokens = [] ∧ r.e0 = Option.none ∧ r.e1 = Option.none ∧ textQuery t.out = .noResult

/-- After every step with status OK the instruction-info query answers the length 1 + oplen and the list of the valid
edges, the first before the second; with status UNDEFINED it answers that there is no result. -/
def Obligations.InfoQueryGivesLengthAndEdges : Prop :=
  (∀ (s t : State) (r : DecodeRecord), step s = .next t → t.out = .ok r →
    infoQuery t.out =
      .result
        { length := 1 + r.oplen.toNat
          edges :=
            match r.e0, r.e1 with
            | none, none => []
            | some x, none => [x]
            | none, some y => [y]
            | some x, some y => [x, y] }) ∧
  (∀ (s t : State) (r : DecodeRecord), step s = .next t → t.out = .undefined r → infoQuery t.out = .noResult)

/-- After a step with status UNDEFINED the lifting query answers 1 (D10). After a step with status SHORT all three
queries refuse: they give no length, edge or text (log entry 12, DEDUCED from the refusal the spec asks for). -/
def Obligations.QueriesOnUndefinedAndShort : Prop :=
  (∀ (s t : State) (r : DecodeRecord), step s = .next t → t.out = .undefined r → liftQuery t.out = .result 1) ∧
  (∀ s t : State, step s = .next t → t.out = .short →
    infoQuery t.out = .refused ∧ textQuery t.out = .refused ∧ liftQuery t.out = .refused)

/-- For every 16-bit value, hex2 is the marker and the two lowercase hexadecimal digits of its low byte, and hex4 the
marker and its four digits, the most significant first. Lowercase is decision D11. -/
def Obligations.HexDigitsOfTokens : Prop :=
  ∀ v : Word,
    (hex2 v).toList = ['$', "0123456789abcdef".toList.getD (v.toNat / 16 % 16) ' ',
      "0123456789abcdef".toList.getD (v.toNat % 16) ' '] ∧
    (hex4 v).toList = ['$', "0123456789abcdef".toList.getD (v.toNat / 4096) ' ',
      "0123456789abcdef".toList.getD (v.toNat / 256 % 16) ' ',
      "0123456789abcdef".toList.getD (v.toNat / 16 % 16) ' ', "0123456789abcdef".toList.getD (v.toNat % 16) ' ']

/-- After every step with status OK the instruction-text query answers the opcode-text token followed by the operand
tokens; the text is the mnemonic left-justified, followed by spaces only, and its length is the column width plus 1,
the same for every instruction. MNEM_WIDTH is open, at least 4 (D12; log entry 4), and the statement holds for every
value of it. -/
def Obligations.ListingColumnIsConstant : Prop :=
  ∀ (s t : State) (r : DecodeRecord), step s = .next t → t.out = .ok r →
    ∃ (text : String) (m : Mnemonic) (k : Nat), textQuery t.out = .result (.op text :: r.tokens) ∧
      r.mnem = .known m ∧ text.toList = m.text.toList ++ List.replicate (k + 1) ' ' ∧
      text.toList.length = Config.mnemWidth + 1

/-- For every 16-bit value and every shape of length 2, the operand value assembled from its high byte and its low
byte is the value; for every shape of length 1 it is the first byte, zero-extended. -/
def Obligations.WordOperandsRoundTrip : Prop :=
  (∀ (S : Shape) (v : Word), S.len = 2 → operandValue S (hiByte v) (loByte v) = v) ∧
  (∀ (S : Shape) (b1 b2 : Byte), S.len = 1 → (operandValue S b1 b2).toNat = b1.toNat)

/-- For every value of QUIRK_EXTRA inside its domain, the reference table under it passes every check of a ROM_TABLE;
the slot of an opcode it holds keeps its mnemonic and takes the shape ByteAddress, and every other slot is the
reference one. The parameter and the checks are the spec's decisions D4 and D3. -/
def Obligations.QuirkTablesAreAdmitted : Prop :=
  ∀ quirk : List Byte, quirkExtraOk quirk = true →
    romOk Config.undefMnemonic (withQuirk quirk referenceRom) = true ∧
    ∀ op : Byte,
      romLookup (withQuirk quirk referenceRom) op =
        if quirk.contains op then (romLookup referenceRom op).map (fun e => { e with shape := .byteAddress })
        else romLookup referenceRom op

/-- For every table that passes the checks, the slots 0x01, 0x20, 0x7E and 0x86 hold nop None, bra ByteAddress, jmp
WordAddress and ldaa ByteImmediate, and the slot 0xFF is absent. For every OK decode on it: category COND comes with
shape ByteAddress, a taken edge to the wrapped sum and a fall-through edge to next_addr; CALL and JUMP come with an
operand, which is the target of their one edge; tsx, pula and rts have length 2 and no edge; no mnemonic reads like
the sentinel; opcode 0x01 shows nop and shape None, 0x20 bra and ByteAddress, 0x7E jmp and WordAddress, 0x86 ldaa and
ByteImmediate; and the opcode is not 0xFF. The checks rest in part on decision D3. -/
def Obligations.AdmittedTablesClassify : Prop :=
  ∀ rom : RomTable, romOk Config.undefMnemonic rom = true →
    romLookup rom 0x01 = some ⟨.nop, .none⟩ ∧ romLookup rom 0x20 = some ⟨.bra, .byteAddress⟩ ∧
    romLookup rom 0x7E = some ⟨.jmp, .wordAddress⟩ ∧ romLookup rom 0x86 = some ⟨.ldaa, .byteImmediate⟩ ∧
    romLookup rom 0xFF = none ∧
    ∀ (addr : Word) (win : BitVec 24) (avail : BitVec 2) (r : DecodeRecord),
      blockDecode rom addr win avail = .ok r →
      (r.cat = .cond → r.shape = .byteAddress ∧
        r.e0 = some ⟨.taken, BitVec.ofInt 16 ((addr.toNat : Int) + signed8 (winB1 win) + 2)⟩ ∧
        r.e1 = some ⟨.fallthrough, r.nextAddr⟩) ∧
      (r.cat = .call ∨ r.cat = .jump → r.opvalValid = true ∧ r.e0.map (fun e => e.target) = some r.opval ∧
        r.e1 = Option.none) ∧
      (r.mnem = .known .tsx ∨ r.mnem = .known .pula ∨ r.mnem = .known .rts →
        r.ilen = 2 ∧ r.e0 = Option.none ∧ r.e1 = Option.none) ∧
      r.mnem.text ≠ Config.undefMnemonic ∧
      (r.opcode = 0x01 → r.mnem = .known .nop ∧ r.shape = .none) ∧
      (r.opcode = 0x20 → r.mnem = .known .bra ∧ r.shape = .byteAddress) ∧
      (r.opcode = 0x7E → r.mnem = .known .jmp ∧ r.shape = .wordAddress) ∧
      (r.opcode = 0x86 → r.mnem = .known .ldaa ∧ r.shape = .byteImmediate) ∧
      r.opcode ≠ 0xFF

/-- The patch of n bytes is n copies of 0x01, the byte on nop_byte. After the host writes it over a range inside the
space, every address of the range reads 0x01, an address that held no byte before too, and every other address reads
as before. That a write at an address that holds no byte adds the byte is the model's choice (log entry 17). That
0x01 is the no-operation byte is the spec's inference (its mark on R100). -/
def Obligations.PatchWritesNopBytes : Prop :=
  (∀ n, (patchQuery n).length = n ∧ ∀ b ∈ patchQuery n, b = 0x01) ∧
  (∀ (s t : State) (r : DecodeRecord), step s = .next t → t.out.record? = some r → r.nopByte = 0x01) ∧
  (∀ (mem : Memory) (a n x : Nat), a + n ≤ 65536 →
    (mem.patch a n).read x = if a ≤ x ∧ x < a + n then some 0x01 else mem.read x)

/-- For every memory and every range of n bytes inside the space, n sweep steps from the start of the range, after
the patch, stop nowhere, leave the address right behind the range mod 65536, and record n decodes, each an OK nop of
length 1 without operand or edges. It holds for the configured table and for every admitted one, and is the spec's
inference (its mark on R100). That a patch at addresses that hold no byte adds the bytes is the model's choice (log
entry 17). -/
def Obligations.PatchedRangeDecodesAsNops : Prop :=
  ∀ (rom : RomTable) (mem : Memory) (a : Word) (n : Nat), romOk Config.undefMnemonic rom = true →
    a.toNat + n ≤ 65536 →
    ∃ h : SweepState, h = sweep rom Option.none n (sweepStart (mem.patch a.toNat n) a) ∧
      h.stop = Option.none ∧ h.a.toNat = (a.toNat + n) % 65536 ∧ h.trace.length = n ∧
      ∀ o ∈ h.trace, ∃ r, o = .ok r ∧ r.mnem = .known .nop ∧ r.ilen = 1 ∧ r.opvalValid = false ∧
        r.e0 = Option.none ∧ r.e1 = Option.none

/-- At every state status is 0 for OK, 1 for UNDEFINED, 2 for SHORT, and the other pins are defined unless it is 2.
Where they are, they show a record of the outputs: opcode is the first byte of the window; shape is 0 None, 1
ByteImmediate, 2 WordImmediate, 3 ByteAddress, 4 WordAddress, 5 Indexed, 6 DirectMemory, 7 ImmediateIndexed;
opval_valid is 1 exactly when oplen is not 0, and opval is 0 where it is 0; fhi and flo are its bytes; next_addr is
addr + ilen mod 65536; nop_byte is 0x01. On UNDEFINED mnem is the sentinel, cat 0, ilen 1 and no edge valid. By
mnemonic: the 16 relative branches have cat 1, both edges valid, kinds 0 and 1, to addr + displacement + 2 and to
next_addr; jsr has cat 2 and only the first edge, kind 2, to opval; jmp has cat 3 and only the first edge, kind 3, to
opval; every other has cat 0 and neither edge. The codes are the spec's decisions; the kind and target pins of an
edge that is not valid are free (log entry 7) and nothing is said of them. -/
def Obligations.OutputPinCodes : Prop :=
  ∀ s : State,
    (s.statusPin =
      match s.outputs with
      | .ok _ => 0
      | .undefined _ => 1
      | .short => 2) ∧
    (s.pins = none ↔ s.statusPin = 2) ∧
    ∀ p : OutputPins, s.pins = some p →
      (∃ r, s.outputs.record? = some r ∧ p.mnem = r.mnem ∧ p.tokens = r.tokens ∧ p.opval = r.opval ∧
        p.shape =
          match r.shape with
          | .none => 0
          | .byteImmediate => 1
          | .wordImmediate => 2
          | .byteAddress => 3
          | .wordAddress => 4
          | .indexed => 5
          | .directMemory => 6
          | .immediateIndexed => 7) ∧
      p.opcode = winB0 s.win ∧ (p.shape = 0 ↔ p.oplen = 0) ∧ p.ilen.toNat = 1 + p.oplen.toNat ∧
      (p.opvalValid = if p.oplen = 0 then 0 else 1) ∧ (p.opvalValid = 0 → p.opval = 0) ∧
      p.fhi = hiByte p.opval ∧ p.flo = loByte p.opval ∧ p.nextAddr = s.addr + p.ilen.setWidth 16 ∧
      p.nopByte = 0x01 ∧
      match p.mnem with
      | .sentinel => s.statusPin = 1 ∧ p.ilen = 1 ∧ p.cat = 0 ∧ p.e0Valid = 0 ∧ p.e1Valid = 0
      | .known m => s.statusPin = 0 ∧
        (m ∈ branchMnemonics → p.cat = 1 ∧ p.e0Valid = 1 ∧ p.e0Kind = 0 ∧
          p.e0Target = s.addr + p.flo.signExtend 16 + 2 ∧ p.e1Valid = 1 ∧ p.e1Kind = 1 ∧
          p.e1Target = p.nextAddr) ∧
        (m = .jsr → p.cat = 2 ∧ p.e0Valid = 1 ∧ p.e0Kind = 2 ∧ p.e0Target = p.opval ∧ p.e1Valid = 0) ∧
        (m = .jmp → p.cat = 3 ∧ p.e0Valid = 1 ∧ p.e0Kind = 3 ∧ p.e0Target = p.opval ∧ p.e1Valid = 0) ∧
        (m ∉ branchMnemonics → m ≠ .jsr → m ≠ .jmp → p.cat = 0 ∧ p.e0Valid = 0 ∧ p.e1Valid = 0)

/-- Two states with equal inputs show equal pins, whatever was decoded before. Windows with equal valid bytes show
equal pins, on every outcome, those of an edge that is not valid included. Where the pins are defined, every window
whose first ilen valid bytes are the same shows the same pins, whatever its other bytes and its avail; and another
addr changes no pin but next_addr and the edge targets. A step changes no pin, and its answer is what the output
ports show. That unused bytes are ignored is the spec's decision D2. -/
def Obligations.PinsFollowTheInputs : Prop :=
  (∀ s s' : State, s'.addr = s.addr → s'.win = s.win → s'.avail = s.avail →
    s'.statusPin = s.statusPin ∧ s'.pins = s.pins) ∧
  (∀ (s : State) (win : BitVec 24), validBytes win s.avail = s.bytes →
    { s with win := win }.statusPin = s.statusPin ∧ { s with win := win }.pins = s.pins) ∧
  (∀ (s : State) (p : OutputPins) (win : BitVec 24) (avail : BitVec 2), s.pins = some p →
    (validBytes win avail).take p.ilen.toNat = s.bytes.take p.ilen.toNat →
    { s with win := win, avail := avail }.statusPin = s.statusPin ∧
      { s with win := win, avail := avail }.pins = some p) ∧
  (∀ (s : State) (a : Word), { s with addr := a }.statusPin = s.statusPin ∧
    ∀ p q : OutputPins, s.pins = some p → { s with addr := a }.pins = some q →
      { q with nextAddr := p.nextAddr, e0Target := p.e0Target, e1Target := p.e1Target } = p) ∧
  (∀ s t : State, step s = .next t → t.out = t.outputs ∧ t.statusPin = s.statusPin ∧ t.pins = s.pins)

/-- The metadata holds address width 2 bytes, integer size 1 byte, alignment 1 byte, longest instruction 3 bytes,
big-endian; the seven named registers with their widths and the two sub-views of d; the six flags in the source's
order; and eight flag-update groupings. The names are decision D15, the widths general knowledge (log entry 9), and
the groupings are open (log entry 5): only their number is stated. -/
def Obligations.MetadataConstants : Prop :=
  archMetadata.addressWidthBytes = 2 ∧ archMetadata.defaultIntegerBytes = 1 ∧
    archMetadata.instructionAlignmentBytes = 1 ∧ archMetadata.maxInstructionLengthBytes = 3 ∧
    archMetadata.bigEndian = true ∧
    archMetadata.registers =
      [⟨"sp", 16⟩, ⟨"pc", 16⟩, ⟨"x", 16⟩, ⟨"d", 16⟩, ⟨"a", 8⟩, ⟨"b", 8⟩, ⟨"ccr", 8⟩] ∧
    archMetadata.subViews = [⟨"a", "d", 15, 8⟩, ⟨"b", "d", 7, 0⟩] ∧
    archMetadata.flags = [.h, .i, .n, .z, .v, .c] ∧ archMetadata.flagGroups.length = 8

/-- Every instruction has a total length n of 1, 2 or 3, and its bit string is an 8n-bit word: bits [8n-1:8n-8] are
the opcode byte, and byte k in address order is the eight bits from 8(n-1-k) up. Under every value of QUIRK_EXTRA an
8n-bit word is decoded to an instruction exactly when that instruction is well-formed there, has length n and has
that word as its bit string: every word decodes to no more than one instruction and every well-formed instruction has
exactly one word. On the window port the word stands in the most significant bits. For a value that names an opcode
outside the domain of QUIRK_EXTRA the statement rests on the model's choice that the decoder and well-formedness
ignore such an opcode (DESIGN CHOICE, log entry 20). -/
def Obligations.EncodingWordRoundTrip : Prop :=
  ∀ i : Instr,
    1 ≤ (encode i).length ∧ (encode i).length ≤ 3 ∧
    (encode i).head? = some ((encodingWord i).extractLsb' (8 * (encode i).length - 8) 8) ∧
    (∀ (k : Nat) (b : Byte), (encode i)[k]? = some b →
      (encodingWord i).extractLsb' (8 * ((encode i).length - 1 - k)) 8 = b) ∧
    (∀ (quirk : List Byte) (n : Nat) (w : BitVec (8 * n)),
      decodeEncodingWord quirk n w = some i ↔
        i.wfWith quirk = true ∧ n = (encode i).length ∧ w.toNat = (encodingWord i).toNat) ∧
    (winOf (encode i)).toNat / 256 ^ (3 - (encode i).length) = (encodingWord i).toNat

/-- For every sentinel text, table and inputs, the decode of a block with that table is answered exactly where the
table passes every check, and is the function Decode there; otherwise it is refused, and the name given is that of a
check the table fails. The configured table is admitted. The statement holds whichever failing check gives the name
(the model's choice, log entry 18). -/
def Obligations.UnadmittedTablesAreRefused : Prop :=
  (∀ (undef : String) (rom : RomTable) (addr : Word) (win : BitVec 24) (avail : BitVec 2),
    (∀ o, admittedDecode undef rom addr win avail = .ok o ↔
      romOk undef rom = true ∧ o = blockDecode rom addr win avail) ∧
    (romOk undef rom = false →
      ∃ c : RomCheck, admittedDecode undef rom addr win avail = .error c ∧ c.holds undef rom = false)) ∧
  admitRom Config.undefMnemonic configuredRom = .ok configuredRom

end Statements
end

