-- ==== Sys2Proof/Laws/Bits.lean ====
section
/-! SUPPORT. Laws of the bit-field, extension and byte-order primitives, and of the window. -/

namespace Sys2Proof

/-- Big-endian: the first byte weighs 256 (20_memory.md R63). -/
theorem toNat_wordOf (b1 b2 : Byte) : (wordOf b1 b2).toNat = 256 * b1.toNat + b2.toNat := by
  have h := b2.isLt
  have e : (wordOf b1 b2).toNat = b1.toNat <<< 8 ||| b2.toNat := BitVec.toNat_append b1 b2
  rw [e, ← Nat.shiftLeft_add_eq_or_of_lt h, Nat.shiftLeft_eq]; omega

theorem toNat_hiByte (v : Word) : (hiByte v).toNat = v.toNat / 256 := by
  have h := v.isLt
  simp only [hiByte, BitVec.extractLsb'_toNat, Nat.shiftRight_eq_div_pow]; omega

theorem toNat_loByte (v : Word) : (loByte v).toNat = v.toNat % 256 := by
  simp [loByte]

@[simp] theorem toNat_zext16 (b : Byte) : (zext16 b).toNat = b.toNat := by
  have := b.isLt; simp [zext16]; omega

@[simp] theorem hiByte_wordOf (b1 b2 : Byte) : hiByte (wordOf b1 b2) = b1 := by
  have h := b2.isLt
  apply BitVec.eq_of_toNat_eq; rw [toNat_hiByte, toNat_wordOf]; omega

@[simp] theorem loByte_wordOf (b1 b2 : Byte) : loByte (wordOf b1 b2) = b2 := by
  have h := b2.isLt
  apply BitVec.eq_of_toNat_eq; rw [toNat_loByte, toNat_wordOf]; omega

@[simp] theorem wordOf_hiByte_loByte (v : Word) : wordOf (hiByte v) (loByte v) = v := by
  apply BitVec.eq_of_toNat_eq; rw [toNat_wordOf, toNat_hiByte, toNat_loByte]; omega

@[simp] theorem hiByte_zext16 (b : Byte) : hiByte (zext16 b) = 0 := by
  have h := b.isLt
  apply BitVec.eq_of_toNat_eq; rw [toNat_hiByte, toNat_zext16]; exact Nat.div_eq_of_lt h

@[simp] theorem loByte_zext16 (b : Byte) : loByte (zext16 b) = b := by
  have h := b.isLt
  apply BitVec.eq_of_toNat_eq; rw [toNat_loByte, toNat_zext16]; exact Nat.mod_eq_of_lt h

theorem wordOf_zero (b : Byte) : wordOf 0 b = zext16 b := by
  rw [← wordOf_hiByte_loByte (zext16 b), hiByte_zext16, loByte_zext16]

/-- `sext_16` reads as `signed8` (00_scope.md R11). -/
theorem toInt_sext16 (b : Byte) : (sext16 b).toInt = signed8 b := by
  simp only [sext16, signed8, BitVec.toInt_signExtend, BitVec.getLsbD]
  revert b; decide

/-- `signed8` by the value of the byte. -/
theorem signed8_eq (b : Byte) : signed8 b = if b.toNat < 128 then (b.toNat : Int) else (b.toNat : Int) - 256 := by
  simp only [signed8]
  revert b; decide

/-- `sext_16` by the value of the byte. -/
theorem toNat_sext16 (b : Byte) : (sext16 b).toNat = if b.toNat < 128 then b.toNat else b.toNat + 65280 := by
  simp only [sext16]
  revert b; decide

/-- The signed byte lies in -128 to +127 (41_control_transfer.md R303). -/
theorem signed8_range (b : Byte) : -128 ≤ signed8 b ∧ signed8 b ≤ 127 := by
  rw [← toInt_sext16]; simp only [sext16]; revert b; decide

namespace Machine

theorem toNat_packWin (b0 b1 b2 : Byte) :
    (packWin b0 b1 b2).toNat = 65536 * b0.toNat + 256 * b1.toNat + b2.toNat := by
  have h := b2.isLt
  have e : (packWin b0 b1 b2).toNat = (wordOf b0 b1).toNat <<< 8 ||| b2.toNat :=
    BitVec.toNat_append (wordOf b0 b1) b2
  rw [e, ← Nat.shiftLeft_add_eq_or_of_lt h, Nat.shiftLeft_eq, toNat_wordOf]; omega

theorem toNat_winB0 (w : BitVec 24) : (winB0 w).toNat = w.toNat / 65536 := by
  have h := w.isLt
  simp only [winB0, BitVec.extractLsb'_toNat, Nat.shiftRight_eq_div_pow]; omega

theorem toNat_winB1 (w : BitVec 24) : (winB1 w).toNat = w.toNat / 256 % 256 := by
  simp [winB1, Nat.shiftRight_eq_div_pow]

theorem toNat_winB2 (w : BitVec 24) : (winB2 w).toNat = w.toNat % 256 := by
  simp [winB2]

@[simp] theorem winB0_packWin (b0 b1 b2 : Byte) : winB0 (packWin b0 b1 b2) = b0 := by
  have h1 := b1.isLt
  have h2 := b2.isLt
  apply BitVec.eq_of_toNat_eq; rw [toNat_winB0, toNat_packWin]; omega

@[simp] theorem winB1_packWin (b0 b1 b2 : Byte) : winB1 (packWin b0 b1 b2) = b1 := by
  have h1 := b1.isLt
  have h2 := b2.isLt
  apply BitVec.eq_of_toNat_eq; rw [toNat_winB1, toNat_packWin]; omega

@[simp] theorem winB2_packWin (b0 b1 b2 : Byte) : winB2 (packWin b0 b1 b2) = b2 := by
  have h2 := b2.isLt
  apply BitVec.eq_of_toNat_eq; rw [toNat_winB2, toNat_packWin]; omega

@[simp] theorem packWin_winB (w : BitVec 24) : packWin (winB0 w) (winB1 w) (winB2 w) = w := by
  apply BitVec.eq_of_toNat_eq; rw [toNat_packWin, toNat_winB0, toNat_winB1, toNat_winB2]; omega

/-- A two-bit `avail` has four values. -/
theorem avail_cases (a : BitVec 2) : a = 0#2 ∨ a = 1#2 ∨ a = 2#2 ∨ a = 3#2 := by revert a; decide

@[simp] theorem validBytes_zero (w : BitVec 24) : validBytes w 0#2 = [] := rfl
@[simp] theorem validBytes_one (w : BitVec 24) : validBytes w 1#2 = [winB0 w] := rfl
@[simp] theorem validBytes_two (w : BitVec 24) : validBytes w 2#2 = [winB0 w, winB1 w] := rfl
@[simp] theorem validBytes_three (w : BitVec 24) : validBytes w 3#2 = [winB0 w, winB1 w, winB2 w] := rfl

theorem validBytes_length (w : BitVec 24) (a : BitVec 2) : (validBytes w a).length = a.toNat := by
  rcases avail_cases a with rfl | rfl | rfl | rfl <;> rfl

end Machine

end Sys2Proof
end

