-- ==== Sys2Proof/Laws/Decode.lean ====
section
/-! SUPPORT. What the decoder's parts can do: a row's operand bytes, the search of the rows, the decoder's three
answers, and the number that an instruction's bytes are. -/

namespace Sys2Proof

/-- How many operand bytes a form takes. -/
def OperandForm.size (isQuirk : Bool) : OperandForm → Nat
  | .fixed _ => 0
  | .quirkable _ => if isQuirk then 1 else 0
  | .byte _ => 1
  | .word _ => 2
  | .pair _ => 2

/-- A form makes an instruction exactly when enough bytes follow the opcode. -/
theorem OperandForm.build_isSome (isQuirk : Bool) (f : OperandForm) (rest : List Byte) :
    (f.build isQuirk rest).isSome = decide (f.size isQuirk ≤ rest.length) := by
  cases f <;> cases isQuirk <;> rcases rest with _ | ⟨_, _ | ⟨_, _⟩⟩ <;>
    simp [OperandForm.build, OperandForm.size]

/-- A form reads no byte past its operand (20_memory.md R65). -/
theorem OperandForm.build_take (isQuirk : Bool) (f : OperandForm) (rest : List Byte) :
    f.build isQuirk rest = f.build isQuirk (rest.take (f.size isQuirk)) := by
  cases f <;> cases isQuirk <;> rcases rest with _ | ⟨_, _ | ⟨_, _⟩⟩ <;>
    simp [OperandForm.build, OperandForm.size]

/-- Everything a form can make. -/
theorem OperandForm.build_cases {isQuirk : Bool} {f : OperandForm} {rest : List Byte} {i : Instr}
    (h : f.build isQuirk rest = some i) :
    f = .fixed i ∨
    (∃ mk, f = .quirkable mk ∧ isQuirk = false ∧ i = mk none) ∨
    (∃ mk b t, f = .quirkable mk ∧ isQuirk = true ∧ rest = b :: t ∧ i = mk (some b)) ∨
    (∃ mk b t, f = .byte mk ∧ rest = b :: t ∧ i = mk b) ∨
    (∃ mk b1 b2 t, f = .word mk ∧ rest = b1 :: b2 :: t ∧ i = mk (wordOf b1 b2)) ∨
    (∃ mk b1 b2 t, f = .pair mk ∧ rest = b1 :: b2 :: t ∧ i = mk b1 b2) := by
  cases f <;> cases isQuirk <;> rcases rest with _ | ⟨_, _ | ⟨_, _⟩⟩ <;>
    simp_all [OperandForm.build]

/-- A row that the search finds stands in the list. -/
theorem findRow_mem {op : Byte} {f : OperandForm} {l : List (Byte × OperandForm)} (h : findRow op l = some f) :
    (op, f) ∈ l := by
  induction l with
  | nil => simp [findRow] at h
  | cons r rest ih =>
    obtain ⟨k, g⟩ := r
    by_cases hk : k = op
    · simp_all [findRow]
    · simp only [findRow, hk, if_false] at h
      exact List.mem_cons_of_mem _ (ih h)

/-- A quirkable row has at most one operand byte. -/
theorem quirkBytes_length_le (q : Option Byte) : (quirkBytes q).length ≤ 1 := by
  cases q <;> simp [quirkBytes]

@[simp] theorem decodeWith_nil (quirk : List Byte) : decodeWith quirk [] = .error .short := rfl

/-- The decoder's answers on a nonempty window. -/
theorem decodeWith_cons (quirk : List Byte) (op : Byte) (rest : List Byte) :
    (findRow op opcodeRows = none ∧ decodeWith quirk (op :: rest) = .error (.undefinedOpcode op)) ∨
    (∃ f, findRow op opcodeRows = some f ∧ f.build (quirk.contains op) rest = none ∧
      decodeWith quirk (op :: rest) = .error .short) ∨
    (∃ f i, findRow op opcodeRows = some f ∧ f.build (quirk.contains op) rest = some i ∧
      decodeWith quirk (op :: rest) = .ok i) := by
  cases hf : findRow op opcodeRows with
  | none => exact .inl ⟨rfl, by simp only [decodeWith, hf]⟩
  | some f =>
    cases hb : f.build (quirk.contains op) rest with
    | none => exact .inr (.inl ⟨f, rfl, hb, by simp only [decodeWith, hf, hb]⟩)
    | some i => exact .inr (.inr ⟨f, i, rfl, hb, by simp only [decodeWith, hf, hb]⟩)

/-! ## Bytes and their numbers: an instruction's bit string (30_encoding.md R80) -/

@[simp] theorem natToBytes_length (n w : Nat) : (natToBytes n w).length = n := by
  induction n with
  | zero => rfl
  | succ n ih => simp only [natToBytes, List.length_cons, ih]

theorem bytesToNat_lt (l : List Byte) : bytesToNat l < 256 ^ l.length := by
  induction l with
  | nil => exact Nat.one_pos
  | cons b l ih =>
    have h : (b.toNat + 1) * 256 ^ l.length ≤ 256 * 256 ^ l.length := Nat.mul_le_mul_right _ b.isLt
    rw [Nat.add_mul, Nat.one_mul] at h
    rw [bytesToNat, List.length_cons, Nat.pow_succ, Nat.mul_comm _ 256]
    omega

/-- A byte depends on the number modulo any greater power only. -/
theorem natToBytes_add_mul (n w k : Nat) : natToBytes n (w + k * 256 ^ n) = natToBytes n w := by
  induction n generalizing k with
  | zero => rfl
  | succ n ih =>
    have hp : k * 256 ^ (n + 1) = k * 256 * 256 ^ n := by rw [Nat.pow_succ, Nat.mul_assoc, Nat.mul_comm (256 ^ n)]
    simp only [natToBytes, hp, ih, byteOfNat, Nat.add_mul_div_right _ _ (Nat.pow_pos (show 0 < 256 by omega))]
    congr 1
    apply BitVec.eq_of_toNat_eq
    simp only [BitVec.toNat_ofNat]
    omega

/-- The bytes of the number of some bytes are those bytes. -/
theorem natToBytes_bytesToNat (l : List Byte) : natToBytes l.length (bytesToNat l) = l := by
  induction l with
  | nil => rfl
  | cons b l ih =>
    have hlt := bytesToNat_lt l
    simp only [List.length_cons, bytesToNat, natToBytes, Nat.add_comm (b.toNat * _), natToBytes_add_mul, ih, byteOfNat,
      Nat.add_mul_div_right _ _ (Nat.pow_pos (show 0 < 256 by omega)), Nat.div_eq_of_lt hlt, Nat.zero_add]
    simp

/-- The number of the bytes of a number that fits in them is that number. -/
theorem bytesToNat_natToBytes (n w : Nat) (h : w < 256 ^ n) : bytesToNat (natToBytes n w) = w := by
  induction n generalizing w with
  | zero => simp only [Nat.pow_zero, Nat.lt_one_iff] at h; simp only [natToBytes, bytesToNat, h]
  | succ n ih =>
    have hw : natToBytes n w = natToBytes n (w % 256 ^ n) := by
      conv => lhs; rw [← Nat.mod_add_div w (256 ^ n), Nat.mul_comm, natToBytes_add_mul]
    have hq : w / 256 ^ n < 256 := Nat.div_lt_of_lt_mul (by rwa [Nat.pow_succ] at h)
    simp only [natToBytes, bytesToNat, natToBytes_length, hw, ih _ (Nat.mod_lt _ (Nat.pow_pos (by omega))), byteOfNat,
      BitVec.toNat_ofNat, Nat.mod_eq_of_lt hq]
    exact Nat.div_add_mod' w (256 ^ n)

/-- The bit string of an instruction is the number of its bytes. -/
@[simp] theorem encodingWord_toNat (i : Instr) : (encodingWord i).toNat = bytesToNat (encode i) := by
  have := bytesToNat_lt (encode i)
  rw [encodingWord, BitVec.toNat_ofNat, Nat.pow_mul]
  exact Nat.mod_eq_of_lt this

end Sys2Proof
end

