-- ==== Sys2Proof/Laws/Memory.lean ====
section
/-! SUPPORT. The host's memory: every operation keeps the canonical form, and a read after a write. -/

namespace Sys2Proof.Machine

/-- The empty memory is canonical. -/
theorem Memory.wf_nil : Memory.wf [] = true := rfl

theorem Memory.wfFrom_mono {lo lo' : Nat} {mem : Memory} (h : Memory.wfFrom lo mem = true) (hl : lo' ≤ lo) :
    Memory.wfFrom lo' mem = true := by
  cases mem with
  | nil => rfl
  | cons c rest =>
    simp only [Memory.wfFrom, Bool.and_eq_true, decide_eq_true_eq] at h ⊢
    exact ⟨⟨by omega, h.1.2⟩, h.2⟩

theorem Memory.insertAt_wfFrom {lo : Nat} {mem : Memory} (h : Memory.wfFrom lo mem = true) {a : Nat} (hlo : lo ≤ a)
    (ha : a < addressSpace) (v : Byte) : Memory.wfFrom lo (mem.insertAt a v) = true := by
  induction mem generalizing lo with
  | nil => simp [Memory.insertAt, Memory.wfFrom, hlo, ha]
  | cons c rest ih =>
    obtain ⟨k, b⟩ := c
    simp only [Memory.wfFrom, Bool.and_eq_true, decide_eq_true_eq] at h
    unfold Memory.insertAt
    by_cases h1 : a < k
    · simp only [h1, if_true, Memory.wfFrom, Bool.and_eq_true, decide_eq_true_eq]
      exact ⟨⟨hlo, ha⟩, ⟨by omega, h.1.2⟩, h.2⟩
    · by_cases h2 : a = k
      · subst h2
        simp only [Nat.lt_irrefl, if_false, if_true, Memory.wfFrom, Bool.and_eq_true, decide_eq_true_eq]
        exact ⟨⟨hlo, ha⟩, h.2⟩
      · simp only [h1, h2, if_false, Memory.wfFrom, Bool.and_eq_true, decide_eq_true_eq]
        exact ⟨h.1, ih h.2 (by omega)⟩

/-- A write keeps the canonical form. -/
theorem Memory.write_wf {mem : Memory} (h : mem.wf = true) (a : Nat) (v : Byte) : (mem.write a v).wf = true := by
  unfold Memory.write
  split
  · exact Memory.insertAt_wfFrom h (Nat.zero_le a) (by assumption) v
  · exact h

/-- A write of a run keeps the canonical form. -/
theorem Memory.writeBytes_wf {mem : Memory} (h : mem.wf = true) (a : Nat) (vs : List Byte) :
    (mem.writeBytes a vs).wf = true := by
  induction vs generalizing mem a with
  | nil => exact h
  | cons v vs ih => exact ih (Memory.write_wf h a v) (a + 1)

/-- The patch keeps the canonical form. -/
theorem Memory.patch_wf {mem : Memory} (h : mem.wf = true) (a n : Nat) : (mem.patch a n).wf = true :=
  Memory.writeBytes_wf h a _

theorem Memory.read_insertAt_same (mem : Memory) (a : Nat) (v : Byte) : (mem.insertAt a v).read a = some v := by
  induction mem with
  | nil => simp [Memory.insertAt, Memory.read]
  | cons c rest ih =>
    obtain ⟨k, b⟩ := c
    unfold Memory.insertAt
    by_cases h1 : a < k
    · simp [h1, Memory.read]
    · by_cases h2 : a = k
      · simp [h2, Memory.read]
      · simp [h1, h2, Memory.read, Ne.symm h2, ih]

theorem Memory.read_insertAt_other (mem : Memory) {a x : Nat} (hx : x ≠ a) (v : Byte) :
    (mem.insertAt a v).read x = mem.read x := by
  induction mem with
  | nil => simp [Memory.insertAt, Memory.read, Ne.symm hx]
  | cons c rest ih =>
    obtain ⟨k, b⟩ := c
    unfold Memory.insertAt
    by_cases h1 : a < k
    · simp [h1, Memory.read, Ne.symm hx]
    · by_cases h2 : a = k
      · subst h2; simp [Memory.read, Ne.symm hx]
      · simp [h1, h2, Memory.read, ih]

/-- Reading the byte just written, at an address of the space. -/
theorem Memory.read_write_same (mem : Memory) {a : Nat} (ha : a < addressSpace) (v : Byte) :
    (mem.write a v).read a = some v := by
  simp [Memory.write, ha, Memory.read_insertAt_same]

/-- A write leaves every other address alone. -/
theorem Memory.read_write_other (mem : Memory) {a x : Nat} (hx : x ≠ a) (v : Byte) :
    (mem.write a v).read x = mem.read x := by
  unfold Memory.write
  split
  · exact Memory.read_insertAt_other mem hx v
  · rfl

/-- A window holds at most three bytes. -/
theorem Memory.readBytes_length_le (mem : Memory) (a n : Nat) : (mem.readBytes a n).length ≤ n := by
  induction n generalizing a with
  | zero => simp [Memory.readBytes]
  | succ n ih =>
    unfold Memory.readBytes
    split
    · split
      · simpa using ih (a + 1)
      · simp
    · simp

theorem Memory.window_length_le (mem : Memory) (a : Word) : (mem.window a).length ≤ 3 :=
  mem.readBytes_length_le a.toNat 3

end Sys2Proof.Machine
end

