-- ==== Sys2Proof/Laws/State.lean ====
section
/-! SUPPORT. One lemma per field of `State` and per update of it, and the projections of outputs and records. -/

namespace Sys2Proof.Machine

@[simp] theorem State.drive_addr (s : State) (o : Outputs) : (s.drive o).addr = s.addr := rfl
@[simp] theorem State.drive_win (s : State) (o : Outputs) : (s.drive o).win = s.win := rfl
@[simp] theorem State.drive_avail (s : State) (o : Outputs) : (s.drive o).avail = s.avail := rfl
@[simp] theorem State.drive_out (s : State) (o : Outputs) : (s.drive o).out = o := rfl
@[simp] theorem State.drive_bytes (s : State) (o : Outputs) : (s.drive o).bytes = s.bytes := rfl
@[simp] theorem State.drive_drive (s : State) (o o' : Outputs) : (s.drive o).drive o' = s.drive o' := rfl
@[simp] theorem State.drive_self (s : State) : s.drive s.out = s := rfl

/-- The output ports never depend on the last answer (10_state.md R30, R41). -/
@[simp] theorem State.drive_outputs (s : State) (o : Outputs) : (s.drive o).outputs = s.outputs := rfl
@[simp] theorem State.drive_statusPin (s : State) (o : Outputs) : (s.drive o).statusPin = s.statusPin := rfl
@[simp] theorem State.drive_pins (s : State) (o : Outputs) : (s.drive o).pins = s.pins := rfl

@[simp] theorem State.present_addr (s : State) (mem : Memory) (a : Word) : (s.present mem a).addr = a := rfl
@[simp] theorem State.present_win (s : State) (mem : Memory) (a : Word) :
    (s.present mem a).win = winOf (mem.window a) := rfl
@[simp] theorem State.present_avail (s : State) (mem : Memory) (a : Word) :
    (s.present mem a).avail = BitVec.ofNat 2 (mem.window a).length := rfl
@[simp] theorem State.present_outputs (s : State) (mem : Memory) (a : Word) :
    (s.present mem a).outputs = decodeAt configuredRom mem a := rfl
@[simp] theorem State.present_out (s : State) (mem : Memory) (a : Word) : (s.present mem a).out = s.out := rfl

@[simp] theorem State.withFetchWord_addr (s : State) (nbits w : Nat) : (s.withFetchWord nbits w).addr = s.addr := rfl
@[simp] theorem State.withFetchWord_win (s : State) (nbits w : Nat) :
    (s.withFetchWord nbits w).win = winOf (tableWordBytes nbits w) := rfl
@[simp] theorem State.withFetchWord_avail (s : State) (nbits w : Nat) :
    (s.withFetchWord nbits w).avail = BitVec.ofNat 2 (windowLimit s.addr) := rfl
@[simp] theorem State.withFetchWord_out (s : State) (nbits w : Nat) : (s.withFetchWord nbits w).out = s.out := rfl

@[simp] theorem State.reset_addr : State.reset.addr = 0#16 := rfl
@[simp] theorem State.reset_win : State.reset.win = 0#24 := rfl
@[simp] theorem State.reset_avail : State.reset.avail = 0#2 := rfl
@[simp] theorem State.reset_out : State.reset.out = .short := rfl
@[simp] theorem State.reset_outputs : State.reset.outputs = .short := rfl

/-- What the pins rest on: the outputs, `addr`, and the bytes that the decode reads. -/
theorem State.pins_congr {s u : State} (ho : u.outputs = s.outputs) (ha : u.addr = s.addr)
    (hb : ∀ r, s.outputs.record? = some r → u.bytes.take r.ilen.toNat = s.bytes.take r.ilen.toNat) :
    u.statusPin = s.statusPin ∧ u.pins = s.pins := by
  refine ⟨by simp only [State.statusPin, ho], ?_⟩
  simp only [State.pins, ho, ha]
  cases hr : s.outputs.record? with
  | none => rfl
  | some r => simp only [Option.map_some, hb r hr]

@[simp] theorem edgePins_some (port : Fin 2) (e : Edge) (addr : Word) (bytes : List Byte) :
    edgePins port (some e) addr bytes = (e.kind.code, e.target) := rfl
@[simp] theorem edgePins_none (port : Fin 2) (addr : Word) (bytes : List Byte) :
    edgePins port Option.none addr bytes = (Config.idleKind port bytes, Config.idleTarget port addr bytes) := rfl

@[simp] theorem Outputs.status_short : Outputs.short.status = .short := rfl
@[simp] theorem Outputs.status_undefined (r : DecodeRecord) : (Outputs.undefined r).status = .undefined := rfl
@[simp] theorem Outputs.status_ok (r : DecodeRecord) : (Outputs.ok r).status = .ok := rfl
@[simp] theorem Outputs.record_short : Outputs.short.record? = Option.none := rfl
@[simp] theorem Outputs.record_undefined (r : DecodeRecord) : (Outputs.undefined r).record? = some r := rfl
@[simp] theorem Outputs.record_ok (r : DecodeRecord) : (Outputs.ok r).record? = some r := rfl

section OkRecord

variable (op : Byte) (m : Mnemonic) (S : Shape) (v addr : Word)

@[simp] theorem okRecord_opcode : (okRecord op m S v addr).opcode = op := rfl
@[simp] theorem okRecord_mnem : (okRecord op m S v addr).mnem = .known m := rfl
@[simp] theorem okRecord_shape : (okRecord op m S v addr).shape = S := rfl
@[simp] theorem okRecord_oplen : (okRecord op m S v addr).oplen = BitVec.ofNat 2 S.len := rfl
@[simp] theorem okRecord_ilen : (okRecord op m S v addr).ilen = BitVec.ofNat 2 (1 + S.len) := rfl
@[simp] theorem okRecord_opvalValid : (okRecord op m S v addr).opvalValid = decide (S.len ≠ 0) := rfl
@[simp] theorem okRecord_opval : (okRecord op m S v addr).opval = v := rfl
@[simp] theorem okRecord_fhi : (okRecord op m S v addr).fhi = hiByte v := rfl
@[simp] theorem okRecord_flo : (okRecord op m S v addr).flo = loByte v := rfl
@[simp] theorem okRecord_cat : (okRecord op m S v addr).cat = category m := rfl
@[simp] theorem okRecord_e0 : (okRecord op m S v addr).e0 = firstEdge (category m) addr v := rfl
@[simp] theorem okRecord_e1 :
    (okRecord op m S v addr).e1 = secondEdge (category m) addr (BitVec.ofNat 2 (1 + S.len)) := rfl
@[simp] theorem okRecord_nextAddr :
    (okRecord op m S v addr).nextAddr = fallTarget addr (BitVec.ofNat 2 (1 + S.len)) := rfl
@[simp] theorem okRecord_tokens : (okRecord op m S v addr).tokens = operandTokens S v := rfl
@[simp] theorem okRecord_nopByte : (okRecord op m S v addr).nopByte = 0x01 := rfl

end OkRecord

section UndefinedRecord

variable (op : Byte) (addr : Word)

@[simp] theorem undefinedRecord_opcode : (undefinedRecord op addr).opcode = op := rfl
@[simp] theorem undefinedRecord_mnem : (undefinedRecord op addr).mnem = .sentinel := rfl
@[simp] theorem undefinedRecord_shape : (undefinedRecord op addr).shape = .none := rfl
@[simp] theorem undefinedRecord_oplen : (undefinedRecord op addr).oplen = 0 := rfl
@[simp] theorem undefinedRecord_ilen : (undefinedRecord op addr).ilen = 1 := rfl
@[simp] theorem undefinedRecord_opvalValid : (undefinedRecord op addr).opvalValid = false := rfl
@[simp] theorem undefinedRecord_opval : (undefinedRecord op addr).opval = 0 := rfl
@[simp] theorem undefinedRecord_fhi : (undefinedRecord op addr).fhi = 0 := rfl
@[simp] theorem undefinedRecord_flo : (undefinedRecord op addr).flo = 0 := rfl
@[simp] theorem undefinedRecord_cat : (undefinedRecord op addr).cat = .none := rfl
@[simp] theorem undefinedRecord_e0 : (undefinedRecord op addr).e0 = Option.none := rfl
@[simp] theorem undefinedRecord_e1 : (undefinedRecord op addr).e1 = Option.none := rfl
@[simp] theorem undefinedRecord_nextAddr : (undefinedRecord op addr).nextAddr = fallTarget addr 1 := rfl
@[simp] theorem undefinedRecord_tokens : (undefinedRecord op addr).tokens = [] := rfl
@[simp] theorem undefinedRecord_nopByte : (undefinedRecord op addr).nopByte = 0x01 := rfl

end UndefinedRecord

end Sys2Proof.Machine
end

