-- ==== Sys2Proof/Laws/Ops.lean ====
section
/-! SUPPORT. For each shared operation of Machine/Ops.lean, everything it can do, said once. -/

namespace Sys2Proof.Machine

/-- A row's pseudocode answers a next state, with its row's outputs or `SHORT`. -/
theorem driveRow_cases (op : Byte) (m : Mnemonic) (S : Shape) (v : Word) (s : State) :
    (s.avail.toNat < 1 + S.len ∧ driveRow op m S v s = .next (s.drive .short)) ∨
    (1 + S.len ≤ s.avail.toNat ∧ driveRow op m S v s = .next (s.drive (.ok (okRecord op m S v s.addr)))) := by
  unfold driveRow
  by_cases h : s.avail.toNat < 1 + S.len
  · exact .inl ⟨h, if_pos h⟩
  · exact .inr ⟨by omega, if_neg h⟩

theorem driveRow_ok {op : Byte} {m : Mnemonic} {S : Shape} {v : Word} {s : State} (h : 1 + S.len ≤ s.avail.toNat) :
    driveRow op m S v s = .next (s.drive (.ok (okRecord op m S v s.addr))) :=
  if_neg (by omega)

theorem driveRow_short {op : Byte} {m : Mnemonic} {S : Shape} {v : Word} {s : State}
    (h : s.avail.toNat < 1 + S.len) : driveRow op m S v s = .next (s.drive .short) :=
  if_pos h

theorem driveNone_eq (op : Byte) (m : Mnemonic) (s : State) : driveNone op m s = driveRow op m .none 0 s := rfl

theorem driveByte_eq (op : Byte) (m : Mnemonic) (S : Shape) (b : Byte) (s : State) :
    driveByte op m S b s = driveRow op m S (zext16 b) s := rfl

theorem driveWord_eq (op : Byte) (m : Mnemonic) (S : Shape) (w : Word) (s : State) :
    driveWord op m S w s = driveRow op m S w s := rfl

theorem drivePair_eq (op : Byte) (m : Mnemonic) (S : Shape) (hi lo : Byte) (s : State) :
    drivePair op m S hi lo s = driveRow op m S (wordOf hi lo) s := rfl

@[simp] theorem driveQuirkable_none (op : Byte) (m : Mnemonic) (s : State) :
    driveQuirkable op m none s = driveNone op m s := rfl

@[simp] theorem driveQuirkable_some (op : Byte) (m : Mnemonic) (b : Byte) (s : State) :
    driveQuirkable op m (some b) s = driveByte op m .byteAddress b s := rfl

theorem driveUndefined_eq (op : Byte) (s : State) :
    driveUndefined op s = .next (s.drive (.undefined (undefinedRecord op s.addr))) := rfl

theorem driveShort_eq (s : State) : driveShort s = .next (s.drive .short) := rfl

@[simp] theorem firstEdge_none (addr v : Word) : firstEdge .none addr v = Option.none := rfl
@[simp] theorem firstEdge_cond (addr v : Word) : firstEdge .cond addr v = some ⟨.taken, takenTarget addr v⟩ := rfl
@[simp] theorem firstEdge_call (addr v : Word) : firstEdge .call addr v = some ⟨.call, v⟩ := rfl
@[simp] theorem firstEdge_jump (addr v : Word) : firstEdge .jump addr v = some ⟨.uncond, v⟩ := rfl
@[simp] theorem secondEdge_none (addr : Word) (n : BitVec 2) : secondEdge .none addr n = Option.none := rfl
@[simp] theorem secondEdge_cond (addr : Word) (n : BitVec 2) :
    secondEdge .cond addr n = some ⟨.fallthrough, fallTarget addr n⟩ := rfl
@[simp] theorem secondEdge_call (addr : Word) (n : BitVec 2) : secondEdge .call addr n = Option.none := rfl
@[simp] theorem secondEdge_jump (addr : Word) (n : BitVec 2) : secondEdge .jump addr n = Option.none := rfl

theorem windowLimit_le (addr : Word) : windowLimit addr ≤ 3 := Nat.min_le_left _ _

@[simp] theorem windowLimit_mod (addr : Word) : windowLimit addr % 4 = windowLimit addr :=
  Nat.mod_eq_of_lt (Nat.lt_succ_of_le (windowLimit_le addr))

/-- The limit fits in the two bits of `avail`. -/
theorem toNat_windowLimit (addr : Word) : (BitVec.ofNat 2 (windowLimit addr)).toNat = windowLimit addr :=
  windowLimit_mod addr

theorem shape_len_le (S : Shape) : S.len ≤ 2 := by cases S <;> decide

@[simp] theorem operandTokens_eq_render (S : Shape) (v : Word) : operandTokens S v = render S v := by
  cases S <;> rfl

end Sys2Proof.Machine
end

