-- ==== Sys2Proof/Laws/PerInstr.lean ====
section
/-! SUPPORT. Statements made per instruction: about an instruction as syntax, one lemma per constructor. -/

namespace Sys2Proof.Laws.EncodedForm

/-- The encoded form of an instruction is one opcode byte, which has a row, and zero to two operand bytes
(30_encoding.md R80, R90). -/
def Statement (i : Instr) : Prop :=
  ∃ op rest, encode i = op :: rest ∧ (findRow op opcodeRows).isSome = true ∧ rest.length ≤ 2

theorem nop : Statement .nop := ⟨_, _, rfl, rfl, by simp⟩
theorem lsrd (q : Option Byte) : Statement (.lsrd q) := ⟨_, _, rfl, rfl, Nat.le_succ_of_le (quirkBytes_length_le q)⟩
theorem asld (q : Option Byte) : Statement (.asld q) := ⟨_, _, rfl, rfl, Nat.le_succ_of_le (quirkBytes_length_le q)⟩
theorem tap (q : Option Byte) : Statement (.tap q) := ⟨_, _, rfl, rfl, Nat.le_succ_of_le (quirkBytes_length_le q)⟩
theorem tpa (q : Option Byte) : Statement (.tpa q) := ⟨_, _, rfl, rfl, Nat.le_succ_of_le (quirkBytes_length_le q)⟩
theorem inx (q : Option Byte) : Statement (.inx q) := ⟨_, _, rfl, rfl, Nat.le_succ_of_le (quirkBytes_length_le q)⟩
theorem dex (q : Option Byte) : Statement (.dex q) := ⟨_, _, rfl, rfl, Nat.le_succ_of_le (quirkBytes_length_le q)⟩
theorem clv (q : Option Byte) : Statement (.clv q) := ⟨_, _, rfl, rfl, Nat.le_succ_of_le (quirkBytes_length_le q)⟩
theorem sev (q : Option Byte) : Statement (.sev q) := ⟨_, _, rfl, rfl, Nat.le_succ_of_le (quirkBytes_length_le q)⟩
theorem clc (q : Option Byte) : Statement (.clc q) := ⟨_, _, rfl, rfl, Nat.le_succ_of_le (quirkBytes_length_le q)⟩
theorem sec (q : Option Byte) : Statement (.sec q) := ⟨_, _, rfl, rfl, Nat.le_succ_of_le (quirkBytes_length_le q)⟩
theorem cli (q : Option Byte) : Statement (.cli q) := ⟨_, _, rfl, rfl, Nat.le_succ_of_le (quirkBytes_length_le q)⟩
theorem sei (q : Option Byte) : Statement (.sei q) := ⟨_, _, rfl, rfl, Nat.le_succ_of_le (quirkBytes_length_le q)⟩
theorem sba (q : Option Byte) : Statement (.sba q) := ⟨_, _, rfl, rfl, Nat.le_succ_of_le (quirkBytes_length_le q)⟩
theorem cba (q : Option Byte) : Statement (.cba q) := ⟨_, _, rfl, rfl, Nat.le_succ_of_le (quirkBytes_length_le q)⟩
theorem tab (q : Option Byte) : Statement (.tab q) := ⟨_, _, rfl, rfl, Nat.le_succ_of_le (quirkBytes_length_le q)⟩
theorem tba (q : Option Byte) : Statement (.tba q) := ⟨_, _, rfl, rfl, Nat.le_succ_of_le (quirkBytes_length_le q)⟩
theorem xgdx (q : Option Byte) : Statement (.xgdx q) := ⟨_, _, rfl, rfl, Nat.le_succ_of_le (quirkBytes_length_le q)⟩
theorem daa (q : Option Byte) : Statement (.daa q) := ⟨_, _, rfl, rfl, Nat.le_succ_of_le (quirkBytes_length_le q)⟩
theorem slp (q : Option Byte) : Statement (.slp q) := ⟨_, _, rfl, rfl, Nat.le_succ_of_le (quirkBytes_length_le q)⟩
theorem aba (q : Option Byte) : Statement (.aba q) := ⟨_, _, rfl, rfl, Nat.le_succ_of_le (quirkBytes_length_le q)⟩
theorem bra (rel8 : Byte) : Statement (.bra rel8) := ⟨_, _, rfl, rfl, by simp⟩
theorem brn (rel8 : Byte) : Statement (.brn rel8) := ⟨_, _, rfl, rfl, by simp⟩
theorem bhi (rel8 : Byte) : Statement (.bhi rel8) := ⟨_, _, rfl, rfl, by simp⟩
theorem bls (rel8 : Byte) : Statement (.bls rel8) := ⟨_, _, rfl, rfl, by simp⟩
theorem bcc (rel8 : Byte) : Statement (.bcc rel8) := ⟨_, _, rfl, rfl, by simp⟩
theorem bcs (rel8 : Byte) : Statement (.bcs rel8) := ⟨_, _, rfl, rfl, by simp⟩
theorem bne (rel8 : Byte) : Statement (.bne rel8) := ⟨_, _, rfl, rfl, by simp⟩
theorem beq (rel8 : Byte) : Statement (.beq rel8) := ⟨_, _, rfl, rfl, by simp⟩
theorem bvc (rel8 : Byte) : Statement (.bvc rel8) := ⟨_, _, rfl, rfl, by simp⟩
theorem bvs (rel8 : Byte) : Statement (.bvs rel8) := ⟨_, _, rfl, rfl, by simp⟩
theorem bpl (rel8 : Byte) : Statement (.bpl rel8) := ⟨_, _, rfl, rfl, by simp⟩
theorem bmi (rel8 : Byte) : Statement (.bmi rel8) := ⟨_, _, rfl, rfl, by simp⟩
theorem bge (rel8 : Byte) : Statement (.bge rel8) := ⟨_, _, rfl, rfl, by simp⟩
theorem blt (rel8 : Byte) : Statement (.blt rel8) := ⟨_, _, rfl, rfl, by simp⟩
theorem bgt (rel8 : Byte) : Statement (.bgt rel8) := ⟨_, _, rfl, rfl, by simp⟩
theorem ble (rel8 : Byte) : Statement (.ble rel8) := ⟨_, _, rfl, rfl, by simp⟩
theorem tsx (b : Byte) : Statement (.tsx b) := ⟨_, _, rfl, rfl, by simp⟩
theorem ins (q : Option Byte) : Statement (.ins q) := ⟨_, _, rfl, rfl, Nat.le_succ_of_le (quirkBytes_length_le q)⟩
theorem pula (b : Byte) : Statement (.pula b) := ⟨_, _, rfl, rfl, by simp⟩
theorem pulb (q : Option Byte) : Statement (.pulb q) := ⟨_, _, rfl, rfl, Nat.le_succ_of_le (quirkBytes_length_le q)⟩
theorem des (q : Option Byte) : Statement (.des q) := ⟨_, _, rfl, rfl, Nat.le_succ_of_le (quirkBytes_length_le q)⟩
theorem txs (q : Option Byte) : Statement (.txs q) := ⟨_, _, rfl, rfl, Nat.le_succ_of_le (quirkBytes_length_le q)⟩
theorem psha (q : Option Byte) : Statement (.psha q) := ⟨_, _, rfl, rfl, Nat.le_succ_of_le (quirkBytes_length_le q)⟩
theorem pshb (q : Option Byte) : Statement (.pshb q) := ⟨_, _, rfl, rfl, Nat.le_succ_of_le (quirkBytes_length_le q)⟩
theorem pulx (q : Option Byte) : Statement (.pulx q) := ⟨_, _, rfl, rfl, Nat.le_succ_of_le (quirkBytes_length_le q)⟩
theorem rts (b : Byte) : Statement (.rts b) := ⟨_, _, rfl, rfl, by simp⟩
theorem abx (q : Option Byte) : Statement (.abx q) := ⟨_, _, rfl, rfl, Nat.le_succ_of_le (quirkBytes_length_le q)⟩
theorem rti (q : Option Byte) : Statement (.rti q) := ⟨_, _, rfl, rfl, Nat.le_succ_of_le (quirkBytes_length_le q)⟩
theorem pshx (q : Option Byte) : Statement (.pshx q) := ⟨_, _, rfl, rfl, Nat.le_succ_of_le (quirkBytes_length_le q)⟩
theorem mul (q : Option Byte) : Statement (.mul q) := ⟨_, _, rfl, rfl, Nat.le_succ_of_le (quirkBytes_length_le q)⟩
theorem wai (q : Option Byte) : Statement (.wai q) := ⟨_, _, rfl, rfl, Nat.le_succ_of_le (quirkBytes_length_le q)⟩
theorem swi (q : Option Byte) : Statement (.swi q) := ⟨_, _, rfl, rfl, Nat.le_succ_of_le (quirkBytes_length_le q)⟩
theorem nega : Statement .nega := ⟨_, _, rfl, rfl, by simp⟩
theorem coma : Statement .coma := ⟨_, _, rfl, rfl, by simp⟩
theorem lsra : Statement .lsra := ⟨_, _, rfl, rfl, by simp⟩
theorem rora : Statement .rora := ⟨_, _, rfl, rfl, by simp⟩
theorem asra : Statement .asra := ⟨_, _, rfl, rfl, by simp⟩
theorem asla : Statement .asla := ⟨_, _, rfl, rfl, by simp⟩
theorem rola : Statement .rola := ⟨_, _, rfl, rfl, by simp⟩
theorem deca : Statement .deca := ⟨_, _, rfl, rfl, by simp⟩
theorem inca : Statement .inca := ⟨_, _, rfl, rfl, by simp⟩
theorem tsta : Statement .tsta := ⟨_, _, rfl, rfl, by simp⟩
theorem clra : Statement .clra := ⟨_, _, rfl, rfl, by simp⟩
theorem negb : Statement .negb := ⟨_, _, rfl, rfl, by simp⟩
theorem comb : Statement .comb := ⟨_, _, rfl, rfl, by simp⟩
theorem lsrb : Statement .lsrb := ⟨_, _, rfl, rfl, by simp⟩
theorem rorb : Statement .rorb := ⟨_, _, rfl, rfl, by simp⟩
theorem asrb : Statement .asrb := ⟨_, _, rfl, rfl, by simp⟩
theorem aslb : Statement .aslb := ⟨_, _, rfl, rfl, by simp⟩
theorem rolb : Statement .rolb := ⟨_, _, rfl, rfl, by simp⟩
theorem decb : Statement .decb := ⟨_, _, rfl, rfl, by simp⟩
theorem incb : Statement .incb := ⟨_, _, rfl, rfl, by simp⟩
theorem tstb : Statement .tstb := ⟨_, _, rfl, rfl, by simp⟩
theorem clrb : Statement .clrb := ⟨_, _, rfl, rfl, by simp⟩
theorem negInd (off8 : Byte) : Statement (.negInd off8) := ⟨_, _, rfl, rfl, by simp⟩
theorem aimImmInd (imm8 off8 : Byte) : Statement (.aimImmInd imm8 off8) := ⟨_, _, rfl, rfl, by simp⟩
theorem oimImmInd (imm8 off8 : Byte) : Statement (.oimImmInd imm8 off8) := ⟨_, _, rfl, rfl, by simp⟩
theorem comInd (off8 : Byte) : Statement (.comInd off8) := ⟨_, _, rfl, rfl, by simp⟩
theorem lsrInd (off8 : Byte) : Statement (.lsrInd off8) := ⟨_, _, rfl, rfl, by simp⟩
theorem eimImmInd (imm8 off8 : Byte) : Statement (.eimImmInd imm8 off8) := ⟨_, _, rfl, rfl, by simp⟩
theorem rorInd (off8 : Byte) : Statement (.rorInd off8) := ⟨_, _, rfl, rfl, by simp⟩
theorem asrInd (off8 : Byte) : Statement (.asrInd off8) := ⟨_, _, rfl, rfl, by simp⟩
theorem aslInd (off8 : Byte) : Statement (.aslInd off8) := ⟨_, _, rfl, rfl, by simp⟩
theorem rolInd (off8 : Byte) : Statement (.rolInd off8) := ⟨_, _, rfl, rfl, by simp⟩
theorem decInd (off8 : Byte) : Statement (.decInd off8) := ⟨_, _, rfl, rfl, by simp⟩
theorem timImmInd (imm8 off8 : Byte) : Statement (.timImmInd imm8 off8) := ⟨_, _, rfl, rfl, by simp⟩
theorem incInd (off8 : Byte) : Statement (.incInd off8) := ⟨_, _, rfl, rfl, by simp⟩
theorem tstInd (off8 : Byte) : Statement (.tstInd off8) := ⟨_, _, rfl, rfl, by simp⟩
theorem jmpInd (off8 : Byte) : Statement (.jmpInd off8) := ⟨_, _, rfl, rfl, by simp⟩
theorem clrInd (off8 : Byte) : Statement (.clrInd off8) := ⟨_, _, rfl, rfl, by simp⟩
theorem negExt (ext16 : Word) : Statement (.negExt ext16) := ⟨_, _, rfl, rfl, by simp⟩
theorem aimImmDir (imm8 dir8 : Byte) : Statement (.aimImmDir imm8 dir8) := ⟨_, _, rfl, rfl, by simp⟩
theorem oimImmDir (imm8 dir8 : Byte) : Statement (.oimImmDir imm8 dir8) := ⟨_, _, rfl, rfl, by simp⟩
theorem comExt (ext16 : Word) : Statement (.comExt ext16) := ⟨_, _, rfl, rfl, by simp⟩
theorem lsrExt (ext16 : Word) : Statement (.lsrExt ext16) := ⟨_, _, rfl, rfl, by simp⟩
theorem eimImmDir (imm8 dir8 : Byte) : Statement (.eimImmDir imm8 dir8) := ⟨_, _, rfl, rfl, by simp⟩
theorem rorExt (ext16 : Word) : Statement (.rorExt ext16) := ⟨_, _, rfl, rfl, by simp⟩
theorem asrExt (ext16 : Word) : Statement (.asrExt ext16) := ⟨_, _, rfl, rfl, by simp⟩
theorem aslExt (ext16 : Word) : Statement (.aslExt ext16) := ⟨_, _, rfl, rfl, by simp⟩
theorem rolExt (ext16 : Word) : Statement (.rolExt ext16) := ⟨_, _, rfl, rfl, by simp⟩
theorem decExt (ext16 : Word) : Statement (.decExt ext16) := ⟨_, _, rfl, rfl, by simp⟩
theorem timImmDir (imm8 dir8 : Byte) : Statement (.timImmDir imm8 dir8) := ⟨_, _, rfl, rfl, by simp⟩
theorem incExt (ext16 : Word) : Statement (.incExt ext16) := ⟨_, _, rfl, rfl, by simp⟩
theorem tstExt (ext16 : Word) : Statement (.tstExt ext16) := ⟨_, _, rfl, rfl, by simp⟩
theorem jmpExt (ext16 : Word) : Statement (.jmpExt ext16) := ⟨_, _, rfl, rfl, by simp⟩
theorem clrExt (ext16 : Word) : Statement (.clrExt ext16) := ⟨_, _, rfl, rfl, by simp⟩
theorem subaImm (imm8 : Byte) : Statement (.subaImm imm8) := ⟨_, _, rfl, rfl, by simp⟩
theorem cmpaImm (imm8 : Byte) : Statement (.cmpaImm imm8) := ⟨_, _, rfl, rfl, by simp⟩
theorem sbcaImm (imm8 : Byte) : Statement (.sbcaImm imm8) := ⟨_, _, rfl, rfl, by simp⟩
theorem subdImm (imm16 : Word) : Statement (.subdImm imm16) := ⟨_, _, rfl, rfl, by simp⟩
theorem andaImm (imm8 : Byte) : Statement (.andaImm imm8) := ⟨_, _, rfl, rfl, by simp⟩
theorem bitaImm (imm8 : Byte) : Statement (.bitaImm imm8) := ⟨_, _, rfl, rfl, by simp⟩
theorem ldaaImm (imm8 : Byte) : Statement (.ldaaImm imm8) := ⟨_, _, rfl, rfl, by simp⟩
theorem eoraImm (imm8 : Byte) : Statement (.eoraImm imm8) := ⟨_, _, rfl, rfl, by simp⟩
theorem adcaImm (imm8 : Byte) : Statement (.adcaImm imm8) := ⟨_, _, rfl, rfl, by simp⟩
theorem oraaImm (imm8 : Byte) : Statement (.oraaImm imm8) := ⟨_, _, rfl, rfl, by simp⟩
theorem addaImm (imm8 : Byte) : Statement (.addaImm imm8) := ⟨_, _, rfl, rfl, by simp⟩
theorem cpxImm (imm16 : Word) : Statement (.cpxImm imm16) := ⟨_, _, rfl, rfl, by simp⟩
theorem bsr (rel8 : Byte) : Statement (.bsr rel8) := ⟨_, _, rfl, rfl, by simp⟩
theorem ldsImm (imm16 : Word) : Statement (.ldsImm imm16) := ⟨_, _, rfl, rfl, by simp⟩
theorem subaDir (dir8 : Byte) : Statement (.subaDir dir8) := ⟨_, _, rfl, rfl, by simp⟩
theorem cmpaDir (dir8 : Byte) : Statement (.cmpaDir dir8) := ⟨_, _, rfl, rfl, by simp⟩
theorem sbcaDir (dir8 : Byte) : Statement (.sbcaDir dir8) := ⟨_, _, rfl, rfl, by simp⟩
theorem subdDir (dir8 : Byte) : Statement (.subdDir dir8) := ⟨_, _, rfl, rfl, by simp⟩
theorem andaDir (dir8 : Byte) : Statement (.andaDir dir8) := ⟨_, _, rfl, rfl, by simp⟩
theorem bitaDir (dir8 : Byte) : Statement (.bitaDir dir8) := ⟨_, _, rfl, rfl, by simp⟩
theorem ldaaDir (dir8 : Byte) : Statement (.ldaaDir dir8) := ⟨_, _, rfl, rfl, by simp⟩
theorem staaDir (dir8 : Byte) : Statement (.staaDir dir8) := ⟨_, _, rfl, rfl, by simp⟩
theorem eoraDir (dir8 : Byte) : Statement (.eoraDir dir8) := ⟨_, _, rfl, rfl, by simp⟩
theorem adcaDir (dir8 : Byte) : Statement (.adcaDir dir8) := ⟨_, _, rfl, rfl, by simp⟩
theorem oraaDir (dir8 : Byte) : Statement (.oraaDir dir8) := ⟨_, _, rfl, rfl, by simp⟩
theorem addaDir (dir8 : Byte) : Statement (.addaDir dir8) := ⟨_, _, rfl, rfl, by simp⟩
theorem cpxDir (dir8 : Byte) : Statement (.cpxDir dir8) := ⟨_, _, rfl, rfl, by simp⟩
theorem jsrDir (dir8 : Byte) : Statement (.jsrDir dir8) := ⟨_, _, rfl, rfl, by simp⟩
theorem ldsDir (dir8 : Byte) : Statement (.ldsDir dir8) := ⟨_, _, rfl, rfl, by simp⟩
theorem stsDir (dir8 : Byte) : Statement (.stsDir dir8) := ⟨_, _, rfl, rfl, by simp⟩
theorem subaInd (off8 : Byte) : Statement (.subaInd off8) := ⟨_, _, rfl, rfl, by simp⟩
theorem cmpaInd (off8 : Byte) : Statement (.cmpaInd off8) := ⟨_, _, rfl, rfl, by simp⟩
theorem sbcaInd (off8 : Byte) : Statement (.sbcaInd off8) := ⟨_, _, rfl, rfl, by simp⟩
theorem subdInd (off8 : Byte) : Statement (.subdInd off8) := ⟨_, _, rfl, rfl, by simp⟩
theorem andaInd (off8 : Byte) : Statement (.andaInd off8) := ⟨_, _, rfl, rfl, by simp⟩
theorem bitaInd (off8 : Byte) : Statement (.bitaInd off8) := ⟨_, _, rfl, rfl, by simp⟩
theorem ldaaInd (off8 : Byte) : Statement (.ldaaInd off8) := ⟨_, _, rfl, rfl, by simp⟩
theorem staaInd (off8 : Byte) : Statement (.staaInd off8) := ⟨_, _, rfl, rfl, by simp⟩
theorem eoraInd (off8 : Byte) : Statement (.eoraInd off8) := ⟨_, _, rfl, rfl, by simp⟩
theorem adcaInd (off8 : Byte) : Statement (.adcaInd off8) := ⟨_, _, rfl, rfl, by simp⟩
theorem oraaInd (off8 : Byte) : Statement (.oraaInd off8) := ⟨_, _, rfl, rfl, by simp⟩
theorem addaInd (off8 : Byte) : Statement (.addaInd off8) := ⟨_, _, rfl, rfl, by simp⟩
theorem cpxInd (off8 : Byte) : Statement (.cpxInd off8) := ⟨_, _, rfl, rfl, by simp⟩
theorem jsrInd (off8 : Byte) : Statement (.jsrInd off8) := ⟨_, _, rfl, rfl, by simp⟩
theorem ldsInd (off8 : Byte) : Statement (.ldsInd off8) := ⟨_, _, rfl, rfl, by simp⟩
theorem stsInd (off8 : Byte) : Statement (.stsInd off8) := ⟨_, _, rfl, rfl, by simp⟩
theorem subaExt (ext16 : Word) : Statement (.subaExt ext16) := ⟨_, _, rfl, rfl, by simp⟩
theorem cmpaExt (ext16 : Word) : Statement (.cmpaExt ext16) := ⟨_, _, rfl, rfl, by simp⟩
theorem sbcaExt (ext16 : Word) : Statement (.sbcaExt ext16) := ⟨_, _, rfl, rfl, by simp⟩
theorem subdExt (ext16 : Word) : Statement (.subdExt ext16) := ⟨_, _, rfl, rfl, by simp⟩
theorem andaExt (ext16 : Word) : Statement (.andaExt ext16) := ⟨_, _, rfl, rfl, by simp⟩
theorem bitaExt (ext16 : Word) : Statement (.bitaExt ext16) := ⟨_, _, rfl, rfl, by simp⟩
theorem ldaaExt (ext16 : Word) : Statement (.ldaaExt ext16) := ⟨_, _, rfl, rfl, by simp⟩
theorem staaExt (ext16 : Word) : Statement (.staaExt ext16) := ⟨_, _, rfl, rfl, by simp⟩
theorem eoraExt (ext16 : Word) : Statement (.eoraExt ext16) := ⟨_, _, rfl, rfl, by simp⟩
theorem adcaExt (ext16 : Word) : Statement (.adcaExt ext16) := ⟨_, _, rfl, rfl, by simp⟩
theorem oraaExt (ext16 : Word) : Statement (.oraaExt ext16) := ⟨_, _, rfl, rfl, by simp⟩
theorem addaExt (ext16 : Word) : Statement (.addaExt ext16) := ⟨_, _, rfl, rfl, by simp⟩
theorem cpxExt (ext16 : Word) : Statement (.cpxExt ext16) := ⟨_, _, rfl, rfl, by simp⟩
theorem jsrExt (ext16 : Word) : Statement (.jsrExt ext16) := ⟨_, _, rfl, rfl, by simp⟩
theorem ldsExt (ext16 : Word) : Statement (.ldsExt ext16) := ⟨_, _, rfl, rfl, by simp⟩
theorem stsExt (ext16 : Word) : Statement (.stsExt ext16) := ⟨_, _, rfl, rfl, by simp⟩
theorem subbImm (imm8 : Byte) : Statement (.subbImm imm8) := ⟨_, _, rfl, rfl, by simp⟩
theorem cmpbImm (imm8 : Byte) : Statement (.cmpbImm imm8) := ⟨_, _, rfl, rfl, by simp⟩
theorem sbcbImm (imm8 : Byte) : Statement (.sbcbImm imm8) := ⟨_, _, rfl, rfl, by simp⟩
theorem adddImm (imm16 : Word) : Statement (.adddImm imm16) := ⟨_, _, rfl, rfl, by simp⟩
theorem andbImm (imm8 : Byte) : Statement (.andbImm imm8) := ⟨_, _, rfl, rfl, by simp⟩
theorem bitbImm (imm8 : Byte) : Statement (.bitbImm imm8) := ⟨_, _, rfl, rfl, by simp⟩
theorem ldabImm (imm8 : Byte) : Statement (.ldabImm imm8) := ⟨_, _, rfl, rfl, by simp⟩
theorem eorbImm (imm8 : Byte) : Statement (.eorbImm imm8) := ⟨_, _, rfl, rfl, by simp⟩
theorem adcbImm (imm8 : Byte) : Statement (.adcbImm imm8) := ⟨_, _, rfl, rfl, by simp⟩
theorem orabImm (imm8 : Byte) : Statement (.orabImm imm8) := ⟨_, _, rfl, rfl, by simp⟩
theorem addbImm (imm8 : Byte) : Statement (.addbImm imm8) := ⟨_, _, rfl, rfl, by simp⟩
theorem lddImm (imm16 : Word) : Statement (.lddImm imm16) := ⟨_, _, rfl, rfl, by simp⟩
theorem ldxImm (imm16 : Word) : Statement (.ldxImm imm16) := ⟨_, _, rfl, rfl, by simp⟩
theorem subbDir (dir8 : Byte) : Statement (.subbDir dir8) := ⟨_, _, rfl, rfl, by simp⟩
theorem cmpbDir (dir8 : Byte) : Statement (.cmpbDir dir8) := ⟨_, _, rfl, rfl, by simp⟩
theorem sbcbDir (dir8 : Byte) : Statement (.sbcbDir dir8) := ⟨_, _, rfl, rfl, by simp⟩
theorem adddDir (dir8 : Byte) : Statement (.adddDir dir8) := ⟨_, _, rfl, rfl, by simp⟩
theorem andbDir (dir8 : Byte) : Statement (.andbDir dir8) := ⟨_, _, rfl, rfl, by simp⟩
theorem bitbDir (dir8 : Byte) : Statement (.bitbDir dir8) := ⟨_, _, rfl, rfl, by simp⟩
theorem ldabDir (dir8 : Byte) : Statement (.ldabDir dir8) := ⟨_, _, rfl, rfl, by simp⟩
theorem stabDir (dir8 : Byte) : Statement (.stabDir dir8) := ⟨_, _, rfl, rfl, by simp⟩
theorem eorbDir (dir8 : Byte) : Statement (.eorbDir dir8) := ⟨_, _, rfl, rfl, by simp⟩
theorem adcbDir (dir8 : Byte) : Statement (.adcbDir dir8) := ⟨_, _, rfl, rfl, by simp⟩
theorem orabDir (dir8 : Byte) : Statement (.orabDir dir8) := ⟨_, _, rfl, rfl, by simp⟩
theorem addbDir (dir8 : Byte) : Statement (.addbDir dir8) := ⟨_, _, rfl, rfl, by simp⟩
theorem lddDir (dir8 : Byte) : Statement (.lddDir dir8) := ⟨_, _, rfl, rfl, by simp⟩
theorem stdDir (dir8 : Byte) : Statement (.stdDir dir8) := ⟨_, _, rfl, rfl, by simp⟩
theorem ldxDir (dir8 : Byte) : Statement (.ldxDir dir8) := ⟨_, _, rfl, rfl, by simp⟩
theorem stxDir (dir8 : Byte) : Statement (.stxDir dir8) := ⟨_, _, rfl, rfl, by simp⟩
theorem subbInd (off8 : Byte) : Statement (.subbInd off8) := ⟨_, _, rfl, rfl, by simp⟩
theorem cmpbInd (off8 : Byte) : Statement (.cmpbInd off8) := ⟨_, _, rfl, rfl, by simp⟩
theorem sbcbInd (off8 : Byte) : Statement (.sbcbInd off8) := ⟨_, _, rfl, rfl, by simp⟩
theorem adddInd (off8 : Byte) : Statement (.adddInd off8) := ⟨_, _, rfl, rfl, by simp⟩
theorem andbInd (off8 : Byte) : Statement (.andbInd off8) := ⟨_, _, rfl, rfl, by simp⟩
theorem bitbInd (off8 : Byte) : Statement (.bitbInd off8) := ⟨_, _, rfl, rfl, by simp⟩
theorem ldabInd (off8 : Byte) : Statement (.ldabInd off8) := ⟨_, _, rfl, rfl, by simp⟩
theorem stabInd (off8 : Byte) : Statement (.stabInd off8) := ⟨_, _, rfl, rfl, by simp⟩
theorem eorbInd (off8 : Byte) : Statement (.eorbInd off8) := ⟨_, _, rfl, rfl, by simp⟩
theorem adcbInd (off8 : Byte) : Statement (.adcbInd off8) := ⟨_, _, rfl, rfl, by simp⟩
theorem orabInd (off8 : Byte) : Statement (.orabInd off8) := ⟨_, _, rfl, rfl, by simp⟩
theorem addbInd (off8 : Byte) : Statement (.addbInd off8) := ⟨_, _, rfl, rfl, by simp⟩
theorem lddInd (off8 : Byte) : Statement (.lddInd off8) := ⟨_, _, rfl, rfl, by simp⟩
theorem stdInd (off8 : Byte) : Statement (.stdInd off8) := ⟨_, _, rfl, rfl, by simp⟩
theorem ldxInd (off8 : Byte) : Statement (.ldxInd off8) := ⟨_, _, rfl, rfl, by simp⟩
theorem stxInd (off8 : Byte) : Statement (.stxInd off8) := ⟨_, _, rfl, rfl, by simp⟩
theorem subbExt (ext16 : Word) : Statement (.subbExt ext16) := ⟨_, _, rfl, rfl, by simp⟩
theorem cmpbExt (ext16 : Word) : Statement (.cmpbExt ext16) := ⟨_, _, rfl, rfl, by simp⟩
theorem sbcbExt (ext16 : Word) : Statement (.sbcbExt ext16) := ⟨_, _, rfl, rfl, by simp⟩
theorem adddExt (ext16 : Word) : Statement (.adddExt ext16) := ⟨_, _, rfl, rfl, by simp⟩
theorem andbExt (ext16 : Word) : Statement (.andbExt ext16) := ⟨_, _, rfl, rfl, by simp⟩
theorem bitbExt (ext16 : Word) : Statement (.bitbExt ext16) := ⟨_, _, rfl, rfl, by simp⟩
theorem ldabExt (ext16 : Word) : Statement (.ldabExt ext16) := ⟨_, _, rfl, rfl, by simp⟩
theorem stabExt (ext16 : Word) : Statement (.stabExt ext16) := ⟨_, _, rfl, rfl, by simp⟩
theorem eorbExt (ext16 : Word) : Statement (.eorbExt ext16) := ⟨_, _, rfl, rfl, by simp⟩
theorem adcbExt (ext16 : Word) : Statement (.adcbExt ext16) := ⟨_, _, rfl, rfl, by simp⟩
theorem orabExt (ext16 : Word) : Statement (.orabExt ext16) := ⟨_, _, rfl, rfl, by simp⟩
theorem addbExt (ext16 : Word) : Statement (.addbExt ext16) := ⟨_, _, rfl, rfl, by simp⟩
theorem lddExt (ext16 : Word) : Statement (.lddExt ext16) := ⟨_, _, rfl, rfl, by simp⟩
theorem stdExt (ext16 : Word) : Statement (.stdExt ext16) := ⟨_, _, rfl, rfl, by simp⟩
theorem ldxExt (ext16 : Word) : Statement (.ldxExt ext16) := ⟨_, _, rfl, rfl, by simp⟩

end Sys2Proof.Laws.EncodedForm
end

