-- ==== Sys2Proof/Laws/Rom.lean ====
section
/-! SUPPORT. The opcode ROM: admission, the checks, and what `blockDecode` can do. -/

namespace Sys2Proof.Machine

/-- `WF_LEN` holds of every table, since the shape catalog is closed (00_scope.md R9). -/
theorem romCheck_len_holds (undef : String) (rom : RomTable) : RomCheck.len.holds undef rom = true := by
  simp only [RomCheck.holds, List.all_eq_true, decide_eq_true_eq]
  intro e _
  have := shape_len_le e.shape
  omega

/-- A table that passes every check is admitted, and only such a table. -/
theorem admitRom_ok_iff (undef : String) (rom t : RomTable) :
    admitRom undef rom = .ok t ↔ romOk undef rom = true ∧ t = rom := by
  unfold admitRom
  cases h : romChecks.find? fun c => !c.holds undef rom with
  | none =>
    have h' := List.find?_eq_none.mp h
    have : romOk undef rom = true := by
      simp only [romOk, List.all_eq_true]; intro c hc; simpa using h' c hc
    simp [this, eq_comm]
  | some c =>
    have hm := List.mem_of_find?_eq_some h
    have hc := List.find?_some h
    simp only [Bool.not_eq_true'] at hc
    have : romOk undef rom = false := by
      simp only [romOk, List.all_eq_false]; exact ⟨c, hm, by simp [hc]⟩
    simp [this]

/-- The slots of a table under `QUIRK_EXTRA`. -/
theorem quirkFrom_getElem? (quirk : List Byte) (rom : RomTable) (k j : Nat) :
    (quirkFrom quirk k rom)[j]? = (rom[j]?).map fun e =>
      if quirk.contains (BitVec.ofNat 8 (k + j)) then e.map fun r => { r with shape := .byteAddress } else e := by
  induction rom generalizing k j with
  | nil => simp [quirkFrom]
  | cons e rest ih =>
    cases j with
    | zero => simp [quirkFrom]
    | succ j =>
      simp only [quirkFrom, List.getElem?_cons_succ, ih]
      rw [show k + 1 + j = k + (j + 1) by omega]

/-- A present slot is an entry of the table. -/
theorem mem_presentEntries_of_romLookup {rom : RomTable} {op : Byte} {e : RomEntry}
    (h : romLookup rom op = some e) : e ∈ presentEntries rom := by
  unfold romLookup at h
  cases hr : rom[op.toNat]? with
  | none => simp [hr] at h
  | some x =>
    simp only [hr, Option.join_some] at h
    subst h
    exact List.mem_filterMap.mpr ⟨some e, List.mem_of_getElem? hr, rfl⟩

/-- A refusal names a check that the table fails. -/
theorem admitRom_error {undef : String} {rom : RomTable} {c : RomCheck} (h : admitRom undef rom = .error c) :
    c.holds undef rom = false := by
  unfold admitRom at h
  split at h
  · rename_i hf
    cases h
    simpa using List.find?_some hf
  · cases h

/-- A decode is answered under an admitted table only, and is `blockDecode` there. -/
theorem admittedDecode_ok_iff (undef : String) (rom : RomTable) (addr : Word) (win : BitVec 24) (avail : BitVec 2)
    (o : Outputs) :
    admittedDecode undef rom addr win avail = .ok o ↔ romOk undef rom = true ∧ o = blockDecode rom addr win avail := by
  unfold admittedDecode
  cases h : admitRom undef rom with
  | ok t => obtain ⟨h1, rfl⟩ := (admitRom_ok_iff undef rom t).mp h; simp [h1, eq_comm]
  | error c =>
    have : romOk undef rom ≠ true := fun h1 => by
      rw [(admitRom_ok_iff undef rom rom).mpr ⟨h1, rfl⟩] at h; cases h
    simp [this]

/-- Everything `blockDecode` can answer, in the order of 60_exceptions.md R705. -/
theorem blockDecode_cases (rom : RomTable) (addr : Word) (win : BitVec 24) (avail : BitVec 2) :
    (avail.toNat = 0 ∧ blockDecode rom addr win avail = .short) ∨
    (avail.toNat ≠ 0 ∧ romLookup rom (winB0 win) = Option.none ∧
      blockDecode rom addr win avail = .undefined (undefinedRecord (winB0 win) addr)) ∨
    (∃ e, romLookup rom (winB0 win) = some e ∧ avail.toNat ≠ 0 ∧ avail.toNat < 1 + e.shape.len ∧
      blockDecode rom addr win avail = .short) ∨
    (∃ e, romLookup rom (winB0 win) = some e ∧ 1 + e.shape.len ≤ avail.toNat ∧
      blockDecode rom addr win avail =
        .ok (okRecord (winB0 win) e.mnem e.shape (operandValue e.shape (winB1 win) (winB2 win)) addr)) := by
  unfold blockDecode
  by_cases h0 : avail.toNat = 0
  · exact .inl ⟨h0, if_pos h0⟩
  · right
    simp only [h0, if_false]
    cases hr : romLookup rom (winB0 win) with
    | none => exact .inl ⟨h0, rfl, rfl⟩
    | some e =>
      right
      by_cases h1 : avail.toNat < 1 + e.shape.len
      · exact .inl ⟨e, rfl, h0, h1, by simp [h1]⟩
      · exact .inr ⟨e, rfl, by omega, by simp [h1]⟩

end Sys2Proof.Machine
end

