-- ==== Sys2Proof/Laws/Rows.lean ====
section
/-! SUPPORT. Row by row, what connects the decoder, the meanings and the reference table: the form that the decoder
finds for an opcode, and the outputs that the meaning of its instructions drives. -/

namespace Sys2Proof.Machine

/-- The decoder's form of an opcode, the table's slot of it, and the meaning of what the form makes. -/
inductive RowMeaning (op : Byte) : Option OperandForm → Option RomEntry → Prop
  | absent : RowMeaning op none none
  | fixed (i : Instr) (m : Mnemonic) (hq : quirkDomain.contains op = false)
      (h : ∀ s, exec i s = driveRow op m .none 0 s) : RowMeaning op (some (.fixed i)) (some ⟨m, .none⟩)
  | quirkable (mk : Option Byte → Instr) (m : Mnemonic) (h : ∀ q s, exec (mk q) s = driveQuirkable op m q s) :
      RowMeaning op (some (.quirkable mk)) (some ⟨m, .none⟩)
  | byte (mk : Byte → Instr) (m : Mnemonic) (S : Shape) (hq : quirkDomain.contains op = false) (hS : S.len = 1)
      (h : ∀ b s, exec (mk b) s = driveRow op m S (zext16 b) s) : RowMeaning op (some (.byte mk)) (some ⟨m, S⟩)
  | word (mk : Word → Instr) (m : Mnemonic) (S : Shape) (hq : quirkDomain.contains op = false) (hS : S.len = 2)
      (h : ∀ w s, exec (mk w) s = driveRow op m S w s) : RowMeaning op (some (.word mk)) (some ⟨m, S⟩)
  | pair (mk : Byte → Byte → Instr) (m : Mnemonic) (S : Shape) (hq : quirkDomain.contains op = false)
      (hS : S.len = 2) (h : ∀ b1 b2 s, exec (mk b1 b2) s = driveRow op m S (wordOf b1 b2) s) :
      RowMeaning op (some (.pair mk)) (some ⟨m, S⟩)

/-- Every row of a list has its meaning. -/
def RowsMean (l : List (Byte × OperandForm)) : Prop :=
  ∀ p ∈ l, RowMeaning p.1 (some p.2) (romLookup referenceRom p.1)

theorem rowsMean_nil : RowsMean [] := by simp [RowsMean]

theorem rowsMean_cons {op : Byte} {f : OperandForm} {l : List (Byte × OperandForm)}
    (h : RowMeaning op (some f) (romLookup referenceRom op)) (hl : RowsMean l) : RowsMean ((op, f) :: l) := by
  intro p hp
  rcases List.mem_cons.mp hp with rfl | hp
  · exact h
  · exact hl p hp

theorem rowsMean_append {l l' : List (Byte × OperandForm)} (h : RowsMean l) (h' : RowsMean l') :
    RowsMean (l ++ l') := by
  intro p hp
  rcases List.mem_append.mp hp with hp | hp
  · exact h p hp
  · exact h' p hp

theorem rowsInherentA_mean : RowsMean rowsInherentA := by
  repeat' apply rowsMean_cons
  case hl => exact rowsMean_nil
  all_goals first
    | exact RowMeaning.byte _ _ _ rfl rfl fun _ _ => rfl
    | exact RowMeaning.quirkable _ _ fun _ _ => rfl
    | exact RowMeaning.fixed _ _ rfl fun _ => rfl

theorem rowsInherentB_mean : RowsMean rowsInherentB := by
  repeat' apply rowsMean_cons
  case hl => exact rowsMean_nil
  all_goals first
    | exact RowMeaning.byte _ _ _ rfl rfl fun _ _ => rfl
    | exact RowMeaning.quirkable _ _ fun _ _ => rfl
    | exact RowMeaning.fixed _ _ rfl fun _ => rfl

theorem rowsControlTransfer_mean : RowsMean rowsControlTransfer := by
  repeat' apply rowsMean_cons
  case hl => exact rowsMean_nil
  all_goals first
    | exact RowMeaning.byte _ _ _ rfl rfl fun _ _ => rfl
    | exact RowMeaning.word _ _ _ rfl rfl fun _ _ => rfl

theorem rowsMemoryRmw_mean : RowsMean rowsMemoryRmw := by
  repeat' apply rowsMean_cons
  case hl => exact rowsMean_nil
  all_goals first
    | exact RowMeaning.byte _ _ _ rfl rfl fun _ _ => rfl
    | exact RowMeaning.word _ _ _ rfl rfl fun _ _ => rfl
    | exact RowMeaning.pair _ _ _ rfl rfl fun _ _ _ => rfl

theorem rowsAccumulatorMemoryA_mean : RowsMean rowsAccumulatorMemoryA := by
  repeat' apply rowsMean_cons
  case hl => exact rowsMean_nil
  all_goals first
    | exact RowMeaning.byte _ _ _ rfl rfl fun _ _ => rfl
    | exact RowMeaning.word _ _ _ rfl rfl fun _ _ => rfl

theorem rowsAccumulatorMemoryB_mean : RowsMean rowsAccumulatorMemoryB := by
  repeat' apply rowsMean_cons
  case hl => exact rowsMean_nil
  all_goals first
    | exact RowMeaning.byte _ _ _ rfl rfl fun _ _ => rfl
    | exact RowMeaning.word _ _ _ rfl rfl fun _ _ => rfl

theorem rowsAccumulatorMemoryC_mean : RowsMean rowsAccumulatorMemoryC := by
  repeat' apply rowsMean_cons
  case hl => exact rowsMean_nil
  all_goals first
    | exact RowMeaning.byte _ _ _ rfl rfl fun _ _ => rfl
    | exact RowMeaning.word _ _ _ rfl rfl fun _ _ => rfl

theorem rowsAccumulatorMemoryD_mean : RowsMean rowsAccumulatorMemoryD := by
  repeat' apply rowsMean_cons
  case hl => exact rowsMean_nil
  all_goals first
    | exact RowMeaning.byte _ _ _ rfl rfl fun _ _ => rfl
    | exact RowMeaning.word _ _ _ rfl rfl fun _ _ => rfl

theorem opcodeRows_mean : RowsMean opcodeRows := by
  unfold opcodeRows
  repeat' apply rowsMean_append
  exacts [rowsInherentA_mean, rowsInherentB_mean, rowsControlTransfer_mean, rowsMemoryRmw_mean,
    rowsAccumulatorMemoryA_mean, rowsAccumulatorMemoryB_mean, rowsAccumulatorMemoryC_mean,
    rowsAccumulatorMemoryD_mean]

/-- Opcodes without a decoder row have no slot in a part of the reference table. -/
def absentAgree (lo n : Nat) : Bool :=
  (List.range' lo n).all fun k =>
    (findRow (BitVec.ofNat 8 k) opcodeRows).isSome || (romLookup referenceRom (BitVec.ofNat 8 k)).isNone

theorem absentAgree_low : absentAgree 0 128 = true := by decide +kernel
theorem absentAgree_high : absentAgree 128 128 = true := by decide +kernel

theorem romLookup_absent {op : Byte} (h : findRow op opcodeRows = none) : romLookup referenceRom op = none := by
  have hn := op.isLt
  have key : ∀ lo, absentAgree lo 128 = true → lo ≤ op.toNat → op.toNat < lo + 128 →
      romLookup referenceRom op = none := by
    intro lo ha h1 h2
    have := List.all_eq_true.mp ha op.toNat (List.mem_range'_1.mpr ⟨h1, h2⟩)
    simpa [h] using this
  by_cases hlo : op.toNat < 128
  · exact key 0 absentAgree_low (Nat.zero_le _) (by omega)
  · exact key 128 absentAgree_high (by omega) (by omega)

/-- Every opcode has its meaning: absent from both tables, or a row whose instructions drive the slot's outputs. -/
theorem rowMeaning (op : Byte) : RowMeaning op (findRow op opcodeRows) (romLookup referenceRom op) := by
  cases h : findRow op opcodeRows with
  | none => rw [romLookup_absent h]; exact .absent
  | some f => exact opcodeRows_mean _ (findRow_mem h)

end Sys2Proof.Machine
end

