-- ==== Sys2Proof/Tests/Slice0.lean ====
section
/-! SUPPORT. The model's own tests: expected values are those of 95_test_vectors.md (its row is named at each test) or
worked out by hand from the rule named; and one witness for the hypotheses of every statement that has some. -/

namespace Sys2Proof.Tests

open Sys2Proof.Machine Sys2Proof.Expect

/-- "bytes [..] at A" of 95_test_vectors.md: the listed bytes on the window, all of them valid. -/
def ports (a : Word) (b : List Byte) : State :=
  { addr := a, win := winOf b, avail := BitVec.ofNat 2 b.length, out := .short }

/-- The outputs after one step. -/
def outAt (a : Word) (b : List Byte) : Outputs :=
  match step (ports a b) with
  | .next t => t.out
  | .fault _ => .short
  | .refused _ => .short

/-- The bytes decode to the instructions beside them. -/
def decodeAll (l : List (List Byte × Instr)) : Bool :=
  l.all fun (b, i) => decode b == .ok i

/-- What the vectors say of a decode: mnemonic, lengths, operand value, edges and next address. -/
structure Brief where
  mnem : MnemSymbol
  oplen : Nat
  ilen : Nat
  opval : Word
  edges : List Edge
  next : Word
  deriving DecidableEq

def brief (o : Outputs) : Option Brief :=
  o.record?.map fun r => ⟨r.mnem, r.oplen.toNat, r.ilen.toNat, r.opval, r.edges, r.nextAddr⟩

/-- The operand tokens. -/
def tokensAt (a : Word) (b : List Byte) : Option (List Token) := (outAt a b).record?.map (·.tokens)

/-! ## Every constructor decodes from its bytes as 95_test_vectors.md section L2.2 writes them -/

theorem test_decode_inherent_1 :
    decodeAll
      [([0x01], .nop), ([0x04], .lsrd none), ([0x05], .asld none), ([0x06], .tap none), ([0x07], .tpa none),
       ([0x08], .inx none), ([0x09], .dex none), ([0x0A], .clv none), ([0x0B], .sev none), ([0x0C], .clc none),
       ([0x0D], .sec none), ([0x0E], .cli none), ([0x0F], .sei none), ([0x10], .sba none), ([0x11], .cba none),
       ([0x16], .tab none), ([0x17], .tba none), ([0x18], .xgdx none), ([0x19], .daa none), ([0x1A], .slp none),
       ([0x1B], .aba none), ([0x30, 0x40], .tsx 0x40), ([0x31], .ins none), ([0x32, 0x40], .pula 0x40),
       ([0x33], .pulb none), ([0x34], .des none), ([0x35], .txs none), ([0x36], .psha none), ([0x37], .pshb none),
       ([0x38], .pulx none), ([0x39, 0x40], .rts 0x40), ([0x3A], .abx none), ([0x3B], .rti none),
       ([0x3C], .pshx none), ([0x3D], .mul none), ([0x3E], .wai none), ([0x3F], .swi none), ([0x40], .nega),
       ([0x43], .coma), ([0x44], .lsra)] = true := by decide +kernel

theorem test_decode_inherent_2 :
    decodeAll
      [([0x46], .rora), ([0x47], .asra), ([0x48], .asla), ([0x49], .rola), ([0x4A], .deca), ([0x4C], .inca),
       ([0x4D], .tsta), ([0x4F], .clra), ([0x50], .negb), ([0x53], .comb), ([0x54], .lsrb), ([0x56], .rorb),
       ([0x57], .asrb), ([0x58], .aslb), ([0x59], .rolb), ([0x5A], .decb), ([0x5C], .incb), ([0x5D], .tstb),
       ([0x5F], .clrb)] = true := by decide +kernel

theorem test_decode_control_transfer :
    decodeAll
      [([0x20, 0x7F], .bra 0x7F), ([0x21, 0x80], .brn 0x80), ([0x22, 0x7F], .bhi 0x7F), ([0x23, 0x80], .bls 0x80),
       ([0x24, 0x7F], .bcc 0x7F), ([0x25, 0x80], .bcs 0x80), ([0x26, 0x7F], .bne 0x7F), ([0x27, 0x80], .beq 0x80),
       ([0x28, 0x7F], .bvc 0x7F), ([0x29, 0x80], .bvs 0x80), ([0x2A, 0x7F], .bpl 0x7F), ([0x2B, 0x80], .bmi 0x80),
       ([0x2C, 0x7F], .bge 0x7F), ([0x2D, 0x80], .blt 0x80), ([0x2E, 0x7F], .bgt 0x7F), ([0x2F, 0x80], .ble 0x80),
       ([0x6E, 0x10], .jmpInd 0x10), ([0x7E, 0x20, 0x00], .jmpExt 0x2000), ([0x8D, 0x40], .bsr 0x40),
       ([0x9D, 0x40], .jsrDir 0x40), ([0xAD, 0x10], .jsrInd 0x10), ([0xBD, 0x20, 0x00], .jsrExt 0x2000)] = true := by decide +kernel

theorem test_decode_memory_rmw :
    decodeAll
      [([0x60, 0x10], .negInd 0x10), ([0x70, 0x20, 0x00], .negExt 0x2000), ([0x61, 0xF0, 0x08], .aimImmInd 0xF0 0x08),
       ([0x71, 0x0F, 0x80], .aimImmDir 0x0F 0x80), ([0x62, 0xF0, 0x08], .oimImmInd 0xF0 0x08),
       ([0x72, 0x0F, 0x80], .oimImmDir 0x0F 0x80), ([0x63, 0x10], .comInd 0x10), ([0x73, 0x20, 0x00], .comExt 0x2000),
       ([0x64, 0x10], .lsrInd 0x10), ([0x74, 0x20, 0x00], .lsrExt 0x2000), ([0x65, 0xF0, 0x08], .eimImmInd 0xF0 0x08),
       ([0x75, 0x0F, 0x80], .eimImmDir 0x0F 0x80), ([0x66, 0x10], .rorInd 0x10), ([0x76, 0x20, 0x00], .rorExt 0x2000),
       ([0x67, 0x10], .asrInd 0x10), ([0x77, 0x20, 0x00], .asrExt 0x2000), ([0x68, 0x10], .aslInd 0x10),
       ([0x78, 0x20, 0x00], .aslExt 0x2000), ([0x69, 0x10], .rolInd 0x10), ([0x79, 0x20, 0x00], .rolExt 0x2000),
       ([0x6A, 0x10], .decInd 0x10), ([0x7A, 0x20, 0x00], .decExt 0x2000), ([0x6B, 0xF0, 0x08], .timImmInd 0xF0 0x08),
       ([0x7B, 0x0F, 0x80], .timImmDir 0x0F 0x80), ([0x6C, 0x10], .incInd 0x10), ([0x7C, 0x20, 0x00], .incExt 0x2000),
       ([0x6D, 0x10], .tstInd 0x10), ([0x7D, 0x20, 0x00], .tstExt 0x2000), ([0x6F, 0x10], .clrInd 0x10),
       ([0x7F, 0x20, 0x00], .clrExt 0x2000)] = true := by decide +kernel

theorem test_decode_accumulator_memory_1 :
    decodeAll
      [([0x80, 0x5A], .subaImm 0x5A), ([0x90, 0x40], .subaDir 0x40), ([0xA0, 0x10], .subaInd 0x10),
       ([0xB0, 0x20, 0x00], .subaExt 0x2000), ([0x81, 0x5A], .cmpaImm 0x5A), ([0x91, 0x40], .cmpaDir 0x40),
       ([0xA1, 0x10], .cmpaInd 0x10), ([0xB1, 0x20, 0x00], .cmpaExt 0x2000), ([0x82, 0x5A], .sbcaImm 0x5A),
       ([0x92, 0x40], .sbcaDir 0x40), ([0xA2, 0x10], .sbcaInd 0x10), ([0xB2, 0x20, 0x00], .sbcaExt 0x2000),
       ([0x83, 0x12, 0x34], .subdImm 0x1234), ([0x93, 0x40], .subdDir 0x40), ([0xA3, 0x10], .subdInd 0x10),
       ([0xB3, 0x20, 0x00], .subdExt 0x2000), ([0x84, 0x5A], .andaImm 0x5A), ([0x94, 0x40], .andaDir 0x40),
       ([0xA4, 0x10], .andaInd 0x10), ([0xB4, 0x20, 0x00], .andaExt 0x2000), ([0x85, 0x5A], .bitaImm 0x5A),
       ([0x95, 0x40], .bitaDir 0x40), ([0xA5, 0x10], .bitaInd 0x10), ([0xB5, 0x20, 0x00], .bitaExt 0x2000),
       ([0x86, 0x5A], .ldaaImm 0x5A), ([0x96, 0x40], .ldaaDir 0x40), ([0xA6, 0x10], .ldaaInd 0x10),
       ([0xB6, 0x20, 0x00], .ldaaExt 0x2000), ([0x88, 0x5A], .eoraImm 0x5A), ([0x98, 0x40], .eoraDir 0x40),
       ([0xA8, 0x10], .eoraInd 0x10), ([0xB8, 0x20, 0x00], .eoraExt 0x2000), ([0x89, 0x5A], .adcaImm 0x5A),
       ([0x99, 0x40], .adcaDir 0x40), ([0xA9, 0x10], .adcaInd 0x10), ([0xB9, 0x20, 0x00], .adcaExt 0x2000),
       ([0x8A, 0x5A], .oraaImm 0x5A), ([0x9A, 0x40], .oraaDir 0x40), ([0xAA, 0x10], .oraaInd 0x10),
       ([0xBA, 0x20, 0x00], .oraaExt 0x2000)] = true := by decide +kernel

theorem test_decode_accumulator_memory_2 :
    decodeAll
      [([0x8B, 0x5A], .addaImm 0x5A), ([0x9B, 0x40], .addaDir 0x40), ([0xAB, 0x10], .addaInd 0x10),
       ([0xBB, 0x20, 0x00], .addaExt 0x2000), ([0x8C, 0x12, 0x34], .cpxImm 0x1234), ([0x9C, 0x40], .cpxDir 0x40),
       ([0xAC, 0x10], .cpxInd 0x10), ([0xBC, 0x20, 0x00], .cpxExt 0x2000), ([0x8E, 0x12, 0x34], .ldsImm 0x1234),
       ([0x9E, 0x40], .ldsDir 0x40), ([0xAE, 0x10], .ldsInd 0x10), ([0xBE, 0x20, 0x00], .ldsExt 0x2000),
       ([0x97, 0x40], .staaDir 0x40), ([0xA7, 0x10], .staaInd 0x10), ([0xB7, 0x20, 0x00], .staaExt 0x2000),
       ([0x9F, 0x40], .stsDir 0x40), ([0xAF, 0x10], .stsInd 0x10), ([0xBF, 0x20, 0x00], .stsExt 0x2000),
       ([0xC0, 0x5A], .subbImm 0x5A), ([0xD0, 0x40], .subbDir 0x40), ([0xE0, 0x10], .subbInd 0x10),
       ([0xF0, 0x20, 0x00], .subbExt 0x2000), ([0xC1, 0x5A], .cmpbImm 0x5A), ([0xD1, 0x40], .cmpbDir 0x40),
       ([0xE1, 0x10], .cmpbInd 0x10), ([0xF1, 0x20, 0x00], .cmpbExt 0x2000), ([0xC2, 0x5A], .sbcbImm 0x5A),
       ([0xD2, 0x40], .sbcbDir 0x40), ([0xE2, 0x10], .sbcbInd 0x10), ([0xF2, 0x20, 0x00], .sbcbExt 0x2000),
       ([0xC3, 0x12, 0x34], .adddImm 0x1234), ([0xD3, 0x40], .adddDir 0x40), ([0xE3, 0x10], .adddInd 0x10),
       ([0xF3, 0x20, 0x00], .adddExt 0x2000), ([0xC4, 0x5A], .andbImm 0x5A), ([0xD4, 0x40], .andbDir 0x40),
       ([0xE4, 0x10], .andbInd 0x10), ([0xF4, 0x20, 0x00], .andbExt 0x2000), ([0xC5, 0x5A], .bitbImm 0x5A),
       ([0xD5, 0x40], .bitbDir 0x40)] = true := by decide +kernel

theorem test_decode_accumulator_memory_3 :
    decodeAll
      [([0xE5, 0x10], .bitbInd 0x10), ([0xF5, 0x20, 0x00], .bitbExt 0x2000), ([0xC6, 0x5A], .ldabImm 0x5A),
       ([0xD6, 0x40], .ldabDir 0x40), ([0xE6, 0x10], .ldabInd 0x10), ([0xF6, 0x20, 0x00], .ldabExt 0x2000),
       ([0xC8, 0x5A], .eorbImm 0x5A), ([0xD8, 0x40], .eorbDir 0x40), ([0xE8, 0x10], .eorbInd 0x10),
       ([0xF8, 0x20, 0x00], .eorbExt 0x2000), ([0xC9, 0x5A], .adcbImm 0x5A), ([0xD9, 0x40], .adcbDir 0x40),
       ([0xE9, 0x10], .adcbInd 0x10), ([0xF9, 0x20, 0x00], .adcbExt 0x2000), ([0xCA, 0x5A], .orabImm 0x5A),
       ([0xDA, 0x40], .orabDir 0x40), ([0xEA, 0x10], .orabInd 0x10), ([0xFA, 0x20, 0x00], .orabExt 0x2000),
       ([0xCB, 0x5A], .addbImm 0x5A), ([0xDB, 0x40], .addbDir 0x40), ([0xEB, 0x10], .addbInd 0x10),
       ([0xFB, 0x20, 0x00], .addbExt 0x2000), ([0xCC, 0x12, 0x34], .lddImm 0x1234), ([0xDC, 0x40], .lddDir 0x40),
       ([0xEC, 0x10], .lddInd 0x10), ([0xFC, 0x20, 0x00], .lddExt 0x2000), ([0xCE, 0x12, 0x34], .ldxImm 0x1234),
       ([0xDE, 0x40], .ldxDir 0x40), ([0xEE, 0x10], .ldxInd 0x10), ([0xFE, 0x20, 0x00], .ldxExt 0x2000),
       ([0xD7, 0x40], .stabDir 0x40), ([0xE7, 0x10], .stabInd 0x10), ([0xF7, 0x20, 0x00], .stabExt 0x2000),
       ([0xDD, 0x40], .stdDir 0x40), ([0xED, 0x10], .stdInd 0x10), ([0xFD, 0x20, 0x00], .stdExt 0x2000),
       ([0xDF, 0x40], .stxDir 0x40), ([0xEF, 0x10], .stxInd 0x10)] = true := by decide +kernel

/-! ## Ill-formed instructions and configurations are refused -/

/-- `ins` (0x31) takes an operand byte only where `QUIRK_EXTRA` holds 0x31 (30_encoding.md R94). -/
theorem test_wf_quirk_operand_unasked : Instr.wfWith [] (.ins (some 0x05)) = false := by decide
theorem test_wf_quirk_operand_missing : Instr.wfWith [0x31] (.ins none) = false := by decide
theorem test_wf_quirk_operand_present : Instr.wfWith [0x31] (.ins (some 0x05)) = true := by decide

/-- 0x01 and rows of other shapes or absent rows lie outside the domain of `QUIRK_EXTRA` (30_encoding.md R94). -/
theorem test_quirk_extra_domain :
    quirkExtraOk [0x01] = false ∧ quirkExtraOk [0x31, 0x20] = false ∧ quirkExtraOk [0x00] = false ∧
      quirkExtraOk [0x40] = false ∧ quirkExtraOk [0x04, 0x3F] = true := by decide

/-- The reference table with the slot of one opcode replaced. -/
def romWith (op : Nat) (e : Option RomEntry) : RomTable := referenceRom.set op e

/-- One bad table for each check of 00_scope.md R9 that a table can fail, and the reference table, which is admitted. -/
theorem test_wf_size : RomCheck.holds "???" (referenceRom.take 255) .size = false := by decide +kernel
theorem test_wf_attested : RomCheck.holds "???" (romWith 0xFF (row .stx .wordAddress)) .attested = false := by decide
theorem test_wf_branch : RomCheck.holds "???" (romWith 0x21 (row .brn .none)) .branch = false := by decide
theorem test_wf_target : RomCheck.holds "???" (romWith 0x9D (row .jsr .none)) .target = false := by decide
theorem test_wf_sentinel : RomCheck.holds "stx" referenceRom .sentinel = false := by decide
theorem test_wf_quirk : RomCheck.holds "???" (romWith 0x39 (row .rts .none)) .quirk = false := by decide
theorem test_reference_rom_admitted : romOk Config.undefMnemonic referenceRom = true := by decide +kernel
theorem test_admit_refuses_by_name :
    (match admitRom "???" (romWith 0x39 (row .rts .none)) with
      | .error c => c == RomCheck.quirk
      | .ok _ => false) = true := by decide +kernel

/-- The default table has 229 present slots (30_encoding.md R98, 95_test_vectors.md S11). -/
theorem test_present_count : (presentEntries referenceRom).length = 229 := by decide +kernel

/-! ## The decoder's other answers, and the host's interface -/

/-- V27: 0x31 under `QUIRK_EXTRA` = {0x31} takes an operand byte. -/
theorem test_decode_quirk_extra :
    decodeWith [0x31] [0x31, 0x33] = .ok (.ins (some 0x33)) ∧ decodeWith [0x31] [0x31] = .error .short ∧
      decodeWith [] [0x31] = .ok (.ins none) := by decide

/-- V8, V9, V11 to V13. -/
theorem test_decode_refusals :
    decode [] = .error .short ∧ decode [0x00] = .error (.undefinedOpcode 0x00) ∧
      decode [0xFF, 0x12, 0x34] = .error (.undefinedOpcode 0xFF) ∧
      decode [0x87, 0x12] = .error (.undefinedOpcode 0x87) ∧ decode [0xCC] = .error .short := by decide

/-- The opcode table's bit 0 is the least significant bit of the first byte, so 0xFEFFBD is the bytes BD FF FE. -/
theorem test_table_word :
    decodeTableWord 24 0xFEFFBD = some (.jsrExt 0xFFFE) ∧ decodeTableWord 8 0x86 = some (.ldaaImm 0x00) ∧
      decodeTableWord 8 0x01 = some .nop ∧ decodeTableWord 8 0xFF = none := by decide

/-- 30_encoding.md R80: the opcode in the most significant byte; `jsr` 0xBD with 0xFFFE is 0xBDFFFE, the table's
`encoding` 10111101aaaaaaaaaaaaaaaa; a word of another length is no instruction word. -/
theorem test_encoding_word :
    (encodingWord (.jsrExt 0xFFFE)).toNat = 0xBDFFFE ∧ (encodingWord (.eimImmDir 0xAA 0x55)).toNat = 0x75AA55 ∧
      (encodingWord (.bra 0x02)).toNat = 0x2002 ∧ (encodingWord .nop).toNat = 0x01 ∧
      decodeEncodingWord [] 3 0xBDFFFE = some (.jsrExt 0xFFFE) ∧ decodeEncodingWord [] 2 0x2002 = some (.bra 0x02) ∧
      decodeEncodingWord [] 2 0x0120 = none ∧ decodeEncodingWord [] 1 0x20 = none ∧
      decodeEncodingWord [] 1 0xFF = none := by decide +kernel

theorem test_fetch_word :
    step (State.reset.withFetchWord 24 0xFEFFBD) = exec (.jsrExt 0xFFFE) (State.reset.withFetchWord 24 0xFEFFBD) := rfl

/-- V6: a three-byte instruction presented at 0xFFFE or 0xFFFF is `SHORT`; at 0xFFFD it is decoded. -/
theorem test_fetch_word_top :
    ((ports 0xFFFE []).withFetchWord 24 0x00207E).outputs = .short ∧
      ((ports 0xFFFF []).withFetchWord 24 0x00207E).outputs = .short ∧
      ((ports 0xFFFD []).withFetchWord 24 0x00207E).outputs.status = .ok ∧
      ((ports 0xFFFF []).withFetchWord 8 0x01).outputs.status = .ok := by decide

/-- 93_implementation_defined.md I7: a `jsr` row of shape `None` is refused, and nothing is decoded under it. -/
theorem test_unadmitted_refused :
    (match admittedDecode "???" (romWith 0x9D (row .jsr .none)) 0x1000 (winOf [0x9D]) 1 with
      | .error c => c == RomCheck.target
      | .ok _ => false) = true := by decide +kernel

/-! ## Outputs: the source's examples and the corner cases of 95_test_vectors.md -/

/-- S1, V7. -/
theorem test_nop :
    brief (outAt 0x1000 [0x01]) = some ⟨.known .nop, 0, 1, 0, [], 0x1001⟩ ∧
      brief (outAt 0xFFFF [0x01]) = some ⟨.known .nop, 0, 1, 0, [], 0x0000⟩ := by decide

/-- S2, S7 (the corrected value of 90_conflicts.md C3). -/
theorem test_bra :
    brief (outAt 0x1000 [0x20, 0x02]) =
        some ⟨.known .bra, 1, 2, 2, [⟨.taken, 0x1004⟩, ⟨.fallthrough, 0x1002⟩], 0x1002⟩ ∧
      brief (outAt 0xFFFE [0x20, 0x0A]) =
        some ⟨.known .bra, 1, 2, 10, [⟨.taken, 0x000A⟩, ⟨.fallthrough, 0x0000⟩], 0x0000⟩ := by decide

/-- S6, V1: the extreme displacements, and a target below 0. -/
theorem test_bra_extremes :
    ((outAt 0x1000 [0x20, 0x80]).record?.bind (·.e0)) = some ⟨.taken, 0x0F82⟩ ∧
      ((outAt 0x1000 [0x20, 0x7F]).record?.bind (·.e0)) = some ⟨.taken, 0x1081⟩ ∧
      ((outAt 0x0000 [0x20, 0x80]).record?.bind (·.e0)) = some ⟨.taken, 0xFF82⟩ := by decide

/-- V28: both edges of `brn`.  V3: a branch to itself. -/
theorem test_brn_beq :
    ((outAt 0x1000 [0x21, 0xFC]).record?.map (·.edges)) = some [⟨.taken, 0x0FFE⟩, ⟨.fallthrough, 0x1002⟩] ∧
      ((outAt 0x1234 [0x27, 0xFE]).record?.map (·.edges)) = some [⟨.taken, 0x1234⟩, ⟨.fallthrough, 0x1236⟩] := by
  decide

/-- S3, V30. -/
theorem test_jmp :
    brief (outAt 0x1000 [0x7E, 0x20, 0x00]) = some ⟨.known .jmp, 2, 3, 0x2000, [⟨.uncond, 0x2000⟩], 0x1003⟩ ∧
      brief (outAt 0x2008 [0x6E, 0x00]) = some ⟨.known .jmp, 1, 2, 0, [⟨.uncond, 0x0000⟩], 0x200A⟩ := by decide

/-- V17, V18, V19. -/
theorem test_jsr :
    brief (outAt 0x1000 [0xBD, 0xFF, 0xFF]) = some ⟨.known .jsr, 2, 3, 0xFFFF, [⟨.call, 0xFFFF⟩], 0x1003⟩ ∧
      brief (outAt 0x1000 [0xAD, 0xFF]) = some ⟨.known .jsr, 1, 2, 0x00FF, [⟨.call, 0x00FF⟩], 0x1002⟩ ∧
      brief (outAt 0x1000 [0x9D, 0x40]) = some ⟨.known .jsr, 1, 2, 0x0040, [⟨.call, 0x0040⟩], 0x1002⟩ := by decide

/-- V20: `bsr` has no edge.  V32: nor has `swi`. -/
theorem test_bsr_swi :
    brief (outAt 0x00FF [0x8D, 0x10]) = some ⟨.known .bsr, 1, 2, 0x0010, [], 0x0101⟩ ∧
      brief (outAt 0x1000 [0x3F]) = some ⟨.known .swi, 0, 1, 0, [], 0x1001⟩ := by decide

/-- V23, V24, V25: the quirk rows. -/
theorem test_quirk_rows :
    brief (outAt 0x1000 [0x32, 0x33]) = some ⟨.known .pula, 1, 2, 0x0033, [], 0x1002⟩ ∧
      outAt 0x1000 [0x32] = .short ∧
      brief (outAt 0x1000 [0x39, 0x00]) = some ⟨.known .rts, 1, 2, 0, [], 0x1002⟩ := by decide

/-- S4, V16. -/
theorem test_tokens_immediate :
    tokensAt 0x1000 [0x86, 0x05] = some [.text "#", .int "$05" 0x05] ∧
      tokensAt 0x4000 [0x8E, 0x00, 0xFF] = some [.text "#", .int "$00ff" 0xFF] := by decide

/-- V21, V22: the two-field shapes. -/
theorem test_tokens_two_fields :
    tokensAt 0x1000 [0x75, 0xAA, 0x55] = some [.text "#", .int "$aa" 0xAA, .text ",", .addr "$55" 0x55] ∧
      tokensAt 0x2003 [0x6B, 0x01, 0x05] =
        some [.text "#", .int "$01" 0x01, .text ",", .int "$05" 0x05, .text ",", .reg "x"] := by decide

/-- V18, V15. -/
theorem test_tokens_indexed_word :
    tokensAt 0x1000 [0xAD, 0xFF] = some [.int "$ff" 0xFF, .text ",", .reg "x"] ∧
      tokensAt 0x1000 [0xCC, 0xAB, 0xCD] = some [.text "#", .int "$abcd" 0xABCD] := by decide

/-- S5, V10: an absent opcode, whatever follows it; the info query has no result. -/
theorem test_undefined :
    brief (outAt 0x1000 [0xFF]) = some ⟨.sentinel, 0, 1, 0, [], 0x1001⟩ ∧
      brief (outAt 0x1000 [0x00, 0x55, 0x66]) = some ⟨.sentinel, 0, 1, 0, [], 0x1001⟩ ∧
      infoQuery (outAt 0x1000 [0xFF]) = .noResult ∧ liftQuery (outAt 0x1000 [0xFF]) = .result 1 := by decide

/-- V5, V6, V8, V13, V14. -/
theorem test_short :
    outAt 0xFFFF [0x2F] = .short ∧ outAt 0xFFFF [0x7E] = .short ∧ outAt 0x1000 [] = .short ∧
      outAt 0x1000 [0xCC] = .short ∧ outAt 0x1000 [0xCC, 0x12] = .short := by decide

/-- The listing line of `ldaa #$05` in a column of 4 (30_encoding.md R101, R105). -/
theorem test_listing :
    textQueryWith 4 "???" (outAt 0x1000 [0x86, 0x05]) = .result [.op "ldaa ", .text "#", .int "$05" 0x05] ∧
      opToken 6 "aba" = .op "aba    " := by decide

/-- `ldaa #$05`, as 30_encoding.md R101 writes it; a row without operand is its mnemonic. -/
theorem test_assembler_text :
    (outAt 0x1000 [0x86, 0x05]).record?.map (assemblerText "???") = some "ldaa #$05" ∧
      (outAt 0x1000 [0x4A]).record?.map (assemblerText "???") = some "deca" := by decide

/-- The pins of `bra` (10_state.md R32). -/
theorem test_pins :
    (ports 0x1000 [0x20, 0x02]).pins.map
        (fun p => (p.shape, p.cat, p.e0Valid, p.e0Kind, p.e1Kind, p.e1Target)) =
      some (3, 1, 1, 0, 1, 0x1002) := by decide

/-- The mnemonic indices at both ends of 30_encoding.md R96. -/
theorem test_mnemonic_index : Mnemonic.nop.index = 0 ∧ Mnemonic.stx.index = 123 := by decide

/-! ## The host's memory and the sweep -/

/-- A write keeps the list sorted, replaces, and leaves an address outside the space alone. -/
theorem test_memory_write :
    Memory.writeBytes [] 0x10 [1, 2] = [(0x10, 1), (0x11, 2)] ∧
      Memory.write [(0x10, 1), (0x12, 2)] 0x11 3 = [(0x10, 1), (0x11, 3), (0x12, 2)] ∧
      Memory.write [(0x10, 1)] 0x10 9 = [(0x10, 9)] ∧ Memory.write [] 65536 1 = [] := by decide

/-- The window stops at 0xFFFF (20_memory.md R62) and at the first byte the region lacks. -/
theorem test_window :
    Memory.window [(0xFFFE, 0x20), (0xFFFF, 0x03)] 0xFFFE = [0x20, 0x03] ∧
      Memory.window [(0, 1), (2, 3)] 0 = [1] := by decide

/-- The memory of a program of 95_test_vectors.md section L3. -/
def program (a : Nat) (b : List Byte) : Memory := Memory.writeBytes [] a b

/-- Where a sweep ended, how many records it made, and why it stopped. -/
def sweepEnd (h : SweepState) : Word × Nat × Option StopReason := (h.a, h.trace.length, h.stop)

/-- P1: five records, then the stop address. -/
theorem test_sweep_p1 :
    sweepEnd (sweep referenceRom (some 0x1008) 9
        (sweepStart (program 0x1000 [0x86, 0x05, 0x4A, 0x26, 0xFD, 0x39, 0x00, 0x01]) 0x1000)) = (0x1008, 5, some .stopAddress) := by decide +kernel

/-- P2: three records, wrapping to 0. -/
theorem test_sweep_p2 :
    sweepEnd (sweep referenceRom (some 0x0000) 9
        (sweepStart (program 0xFFF8 [0xCE, 0x12, 0x34, 0xBD, 0x00, 0x10, 0x20, 0x03]) 0xFFF8)) = (0x0000, 3, some .stopAddress) := by decide +kernel

/-- P2b: `SHORT` at the top of memory. -/
theorem test_sweep_p2b :
    sweepEnd (sweep referenceRom none 9 (sweepStart (program 0xFFFF [0x7E]) 0xFFFF)) =
      (0xFFFF, 1, some .short) := by decide +kernel

/-- P3: five records, stopped on `UNDEFINED`. -/
theorem test_sweep_p3 :
    sweepEnd (sweep referenceRom none 9
        (sweepStart (program 0x2000 [0x71, 0x0F, 0x80, 0x6B, 0x01, 0x05, 0x27, 0xF8, 0x6E, 0x00, 0x00]) 0x2000)) = (0x200A, 5, some .undefined) := by decide +kernel

/-! ## Witnesses: states and operands that meet the hypotheses of the statements -/

theorem witness_PlainRowsComplete :
    1 ≤ (ports 0xFFFF [0x5F]).avail.toNat ∧ (Instr.clrb, 0x5F, Mnemonic.clrb) ∈ plainRows :=
  ⟨by decide, by simp [plainRows]⟩

theorem witness_QuirkableRowsComplete :
    1 ≤ (ports 0xFFFF [0x3F]).avail.toNat ∧ (Instr.swi, 0x3F, Mnemonic.swi) ∈ quirkableRows :=
  ⟨by decide, by simp [quirkableRows]⟩

theorem witness_QuirkExtraRowsComplete :
    2 ≤ (ports 0xFFFE [0x31, 0x33]).avail.toNat ∧ (Instr.ins, 0x31, Mnemonic.ins) ∈ quirkableRows :=
  ⟨by decide, by simp [quirkableRows]⟩

theorem witness_QuirkRowsComplete :
    2 ≤ (ports 0xFFFE [0x39, 0x00]).avail.toNat ∧ (Instr.rts, 0x39, Mnemonic.rts) ∈ quirkRows :=
  ⟨by decide, by simp [quirkRows]⟩

theorem witness_BranchRowsComplete :
    2 ≤ (ports 0xFFFE [0x2F, 0x80]).avail.toNat ∧ (Instr.ble, 0x2F, Mnemonic.ble) ∈ branchRows :=
  ⟨by decide, by simp [branchRows]⟩

theorem witness_BsrCompletes : 2 ≤ (ports 0xFFFE [0x8D, 0xFF]).avail.toNat := by decide

/-- Both clauses, each at its least window. -/
theorem witness_JmpRowsComplete :
    2 ≤ (ports 0xFFFE [0x6E, 0xFF]).avail.toNat ∧ 3 ≤ (ports 0xFFFD [0x7E, 0xFF, 0xFF]).avail.toNat := by decide

/-- All three clauses, each at its least window. -/
theorem witness_JsrRowsComplete :
    2 ≤ (ports 0xFFFE [0x9D, 0xFF]).avail.toNat ∧ 2 ≤ (ports 0xFFFE [0xAD, 0xFF]).avail.toNat ∧
      3 ≤ (ports 0xFFFD [0xBD, 0xFF, 0xFF]).avail.toNat := by decide

theorem witness_RmwIndexedRowsComplete :
    2 ≤ (ports 0xFFFE [0x6F, 0xFF]).avail.toNat ∧ (Instr.clrInd, 0x6F, Mnemonic.clr) ∈ rmwIndexedRows :=
  ⟨by decide, by simp [rmwIndexedRows]⟩

theorem witness_RmwExtendedRowsComplete :
    3 ≤ (ports 0xFFFD [0x7F, 0xFF, 0xFF]).avail.toNat ∧ (Instr.clrExt, 0x7F, Mnemonic.clr) ∈ rmwExtendedRows :=
  ⟨by decide, by simp [rmwExtendedRows]⟩

theorem witness_BitImmediateIndexedRowsComplete :
    3 ≤ (ports 0xFFFD [0x6B, 0x01, 0x05]).avail.toNat ∧ (Instr.timImmInd, 0x6B, Mnemonic.tim) ∈ bitIndexedRows :=
  ⟨by decide, by simp [bitIndexedRows]⟩

theorem witness_BitImmediateDirectRowsComplete :
    3 ≤ (ports 0xFFFD [0x75, 0xAA, 0x55]).avail.toNat ∧ (Instr.eimImmDir, 0x75, Mnemonic.eim) ∈ bitDirectRows :=
  ⟨by decide, by simp [bitDirectRows]⟩

theorem witness_AccumulatorImmediateRowsComplete :
    2 ≤ (ports 0xFFFE [0x86, 0x05]).avail.toNat ∧ (Instr.ldaaImm, 0x86, Mnemonic.ldaa) ∈ byteImmediateRows :=
  ⟨by decide, by simp [byteImmediateRows]⟩

theorem witness_WordImmediateRowsComplete :
    3 ≤ (ports 0xFFFD [0xCC, 0xAB, 0xCD]).avail.toNat ∧ (Instr.lddImm, 0xCC, Mnemonic.ldd) ∈ wordImmediateRows :=
  ⟨by decide, by simp [wordImmediateRows]⟩

theorem witness_DirectRowsComplete :
    2 ≤ (ports 0xFFFE [0xDF, 0x40]).avail.toNat ∧ (Instr.stxDir, 0xDF, Mnemonic.stx) ∈ directRows :=
  ⟨by decide, by simp [directRows]⟩

theorem witness_IndexedRowsComplete :
    2 ≤ (ports 0xFFFE [0xEF, 0x10]).avail.toNat ∧ (Instr.stxInd, 0xEF, Mnemonic.stx) ∈ indexedRows :=
  ⟨by decide, by simp [indexedRows]⟩

theorem witness_ExtendedRowsComplete :
    3 ≤ (ports 0xFFFD [0xFE, 0x20, 0x00]).avail.toNat ∧ (Instr.ldxExt, 0xFE, Mnemonic.ldx) ∈ extendedRows :=
  ⟨by decide, by simp [extendedRows]⟩

/-- Both clauses: a quirk form under its configuration, and a three-byte instruction under the default. -/
theorem witness_StepRunsDecodedInstruction :
    (decodeWith [0x31] (ports 0xFFFE [0x31, 0x33]).bytes = .ok (.ins (some 0x33)) ∧
      (Instr.ins (some 0x33)).wfWith [0x31] = true) ∧
    (decode (ports 0xFFFD [0xBD, 0x00, 0x10]).bytes = .ok (.jsrExt 0x0010) ∧ (Instr.jsrExt 0x0010).wf = true) := by
  decide

theorem witness_PresentedWordRuns :
    decodeTableWord 24 0xFEFFBD = some (.jsrExt 0xFFFE) ∧ (ports 0xFFFD []).addr.toNat ≤ 0xFFFD := by decide

/-- One byte missing, and none presented. -/
theorem witness_ShortWindowDrivesShort :
    (ports 0xFFFE [0x7E, 0x20]).avail.toNat < (encode (.jmpExt 0x2000)).length ∧
      (ports 0x1000 []).avail.toNat < (encode .nop).length := by decide

theorem witness_ExecShowsEveryByte :
    (encode (.jmpExt 0x2000)).length ≤ (ports 0xFFFD [0x7E, 0x20, 0x00]).avail.toNat ∧
      (encode (.ins (some 0x33))).length ≤ (ports 0xFFFE [0x31, 0x33]).avail.toNat := by decide

theorem witness_EqualInputsGiveEqualOutputs :
    ((ports 0x1000 [0x01]).drive (outAt 0x2000 [0x20, 0x02])).addr = (ports 0x1000 [0x01]).addr ∧
      ((ports 0x1000 [0x01]).drive (outAt 0x2000 [0x20, 0x02])).win = (ports 0x1000 [0x01]).win ∧
      ((ports 0x1000 [0x01]).drive (outAt 0x2000 [0x20, 0x02])).avail = (ports 0x1000 [0x01]).avail :=
  ⟨rfl, rfl, rfl⟩

theorem witness_StepRefinesBlockDecode : quirkExtraOk [0x04, 0x31, 0x3F] = true := by decide

theorem witness_DecodeOfEncode :
    (Instr.ins (some 0x33)).wfWith [0x31] = true ∧ (Instr.ins none).wfWith [] = true ∧
      (Instr.stsExt 0xFFFF).wfWith [] = true := by decide

theorem witness_EncodeOfDecode : decodeWith [0x31] [0x31, 0x33, 0x01] = .ok (.ins (some 0x33)) := by decide

theorem witness_StepEstablishesInvariant :
    ∃ t, WindowInSpace (ports 0xFFFE [0x20, 0x0A]) ∧ step (ports 0xFFFE [0x20, 0x0A]) = .next t :=
  ⟨_, by unfold WindowInSpace; decide, rfl⟩

theorem witness_AbsentOpcodesAreUndefined :
    1 ≤ (ports 0xFFFF [0xFF]).avail.toNat ∧ winB0 (ports 0xFFFF [0xFF]).win ∈ absentOpcodes := by decide

theorem witness_WholeWindowNeverShort : (ports 0xFFFD [0xFF, 0x00, 0x00]).avail.toNat = 3 := by decide

/-- The extreme displacements, at both ends of the space. -/
theorem witness_BranchTakenTarget :
    (∃ t r, step (ports 0x0000 [0x20, 0x80]) = .next t ∧ t.out = .ok r ∧ r.cat = .cond) ∧
      (∃ t r, step (ports 0xFFFE [0x2F, 0x7F]) = .next t ∧ t.out = .ok r ∧ r.cat = .cond) :=
  ⟨⟨_, _, rfl, rfl, rfl⟩, ⟨_, _, rfl, rfl, rfl⟩⟩

/-- A branch, and another category, at the top of the space. -/
theorem witness_AddressAluWraps :
    (∃ t r, step (ports 0xFFFE [0x20, 0x0A]) = .next t ∧ t.out.record? = some r ∧ r.cat = .cond) ∧
      (∃ t r, step (ports 0xFFFD [0xBD, 0x00, 0x10]) = .next t ∧ t.out.record? = some r ∧ r.cat = .call) ∧
      (∃ t r, step (ports 0xFFFF [0xFF]) = .next t ∧ t.out.record? = some r ∧ r.cat = .none) :=
  ⟨⟨_, _, rfl, rfl, rfl⟩, ⟨_, _, rfl, rfl, rfl⟩, ⟨_, _, rfl, rfl, rfl⟩⟩

theorem witness_JumpEdge :
    (∃ t r, step (ports 0x2008 [0x6E, 0x00]) = .next t ∧ t.out = .ok r ∧ r.cat = .jump) ∧
      (∃ t r, step (ports 0x1000 [0x7E, 0xFF, 0xFF]) = .next t ∧ t.out = .ok r ∧ r.cat = .jump) :=
  ⟨⟨_, _, rfl, rfl, rfl⟩, ⟨_, _, rfl, rfl, rfl⟩⟩

/-- One decode of each category. -/
theorem witness_CategoryDecidesEdges :
    (∃ t r, step (ports 0x1000 [0x21, 0xFC]) = .next t ∧ t.out = .ok r ∧ r.cat = .cond) ∧
      (∃ t r, step (ports 0x1000 [0x9D, 0x40]) = .next t ∧ t.out = .ok r ∧ r.cat = .call) ∧
      (∃ t r, step (ports 0x1000 [0x6E, 0x40]) = .next t ∧ t.out = .ok r ∧ r.cat = .jump) ∧
      (∃ t r, step (ports 0x1000 [0x8D, 0x10]) = .next t ∧ t.out = .ok r ∧ r.cat = .none) :=
  ⟨⟨_, _, rfl, rfl, rfl⟩, ⟨_, _, rfl, rfl, rfl⟩, ⟨_, _, rfl, rfl, rfl⟩, ⟨_, _, rfl, rfl, rfl⟩⟩

/-- Each clause: both two-field shapes, and a one-byte shape. -/
theorem witness_FieldSplit :
    (∃ t r, step (ports 0x1000 [0x75, 0xAA, 0x55]) = .next t ∧ t.out = .ok r ∧ r.shape = .directMemory) ∧
      (∃ t r, step (ports 0x1000 [0x6B, 0x01, 0x05]) = .next t ∧ t.out = .ok r ∧ r.shape = .immediateIndexed) ∧
      (∃ t r, step (ports 0x1000 [0x86, 0xFF]) = .next t ∧ t.out = .ok r ∧ r.shape.len = 1) :=
  ⟨⟨_, _, rfl, rfl, rfl⟩, ⟨_, _, rfl, rfl, rfl⟩, ⟨_, _, rfl, rfl, rfl⟩⟩

/-- Two addresses at which the same window decodes to edges. -/
theorem witness_AddressIndependence :
    (outAt 0x1000 [0x20, 0xFC]).record?.isSome = true ∧ (outAt 0xFFFE [0x20, 0xFC]).record?.isSome = true := by
  decide

/-- Each clause: a present entry, an `OK` decode and an `UNDEFINED` one. -/
theorem witness_LengthBounds :
    romLookup configuredRom 0x7E = some ⟨.jmp, .wordAddress⟩ ∧
      (∃ t r, step (ports 0x1000 [0x7E, 0x20, 0x00]) = .next t ∧ t.out = .ok r ∧ t.out.record? = some r) ∧
      (∃ t r, step (ports 0x1000 [0xFF]) = .next t ∧ t.out = .undefined r ∧ t.out.record? = some r) :=
  ⟨rfl, ⟨_, _, rfl, rfl, rfl⟩, ⟨_, _, rfl, rfl, rfl⟩⟩

theorem witness_LengthFromOpcodeByte :
    (∃ t r, step (ports 0x1000 [0x01, 0x26, 0x00]) = .next t ∧ t.out.record? = some r ∧ r.ilen = 1) ∧
      (∃ t r, step (ports 0x1000 [0xBD, 0x26, 0x00]) = .next t ∧ t.out.record? = some r ∧ r.ilen = 3) ∧
      (∃ t r, step (ports 0x1000 [0x00, 0x55, 0x66]) = .next t ∧ t.out.record? = some r ∧ r.ilen = 1) :=
  ⟨⟨_, _, rfl, rfl, rfl⟩, ⟨_, _, rfl, rfl, rfl⟩, ⟨_, _, rfl, rfl, rfl⟩⟩

/-- A one-byte instruction, and another window with the same first byte and one more valid byte. -/
theorem witness_ConsumesOnlyItsBytes :
    ∃ t r, step (ports 0x1000 [0x4A]) = .next t ∧ t.out.record? = some r ∧
      (validBytes (winOf [0x4A, 0x77]) 2).take r.ilen.toNat = (ports 0x1000 [0x4A]).bytes.take r.ilen.toNat :=
  ⟨_, _, rfl, rfl, by decide⟩

/-- Two windows that differ in a byte that is not valid. -/
theorem witness_BytesBeyondAvailIgnored :
    validBytes (packWin 0x4A 0x12 0x34) (ports 0x1000 [0x4A]).avail =
        validBytes (ports 0x1000 [0x4A]).win (ports 0x1000 [0x4A]).avail ∧
      packWin 0x4A 0x12 0x34 ≠ (ports 0x1000 [0x4A]).win := by decide

/-- Each clause: an operand of one byte and one of two, at the top of the space. -/
theorem witness_BigEndianOperandsFromMemory :
    (∃ t r, step (State.reset.present [(0xFFFE, 0x20), (0xFFFF, 0x03)] 0xFFFE) = .next t ∧
      t.out.record? = some r ∧ r.oplen = 1) ∧
    (∃ t r, step (State.reset.present [(0xFFFD, 0xCC), (0xFFFE, 0xAB), (0xFFFF, 0xCD)] 0xFFFD) = .next t ∧
      t.out.record? = some r ∧ r.oplen = 2) :=
  ⟨⟨_, _, rfl, rfl, rfl⟩, ⟨_, _, rfl, rfl, rfl⟩⟩

/-- Each clause: a two-byte operand of one field, and both two-field shapes. -/
theorem witness_BigEndianOperands :
    (∃ t r, step (ports 0xFFFD [0xCC, 0xAB, 0xCD]) = .next t ∧ t.out = .ok r ∧ r.oplen = 2) ∧
      (∃ t r, step (ports 0x1000 [0x75, 0xAA, 0x55]) = .next t ∧ t.out = .ok r ∧ r.shape = .directMemory) ∧
      (∃ t r, step (ports 0x1000 [0x6B, 0x01, 0x05]) = .next t ∧ t.out = .ok r ∧ r.shape = .immediateIndexed) :=
  ⟨⟨_, _, rfl, rfl, rfl⟩, ⟨_, _, rfl, rfl, rfl⟩, ⟨_, _, rfl, rfl, rfl⟩⟩

/-- Each clause: a valid byte, and the last byte of the space. -/
theorem witness_PresentedWindowEndsAtTheTop :
    0 < (State.reset.present [(0xFFFF, 0x01)] 0xFFFF).avail.toNat ∧
      ∀ j ≤ 0, (0xFFFF : Word).toNat + j < 65536 ∧
        (Memory.read [(0xFFFF, 0x01)] ((0xFFFF : Word).toNat + j)).isSome = true := by decide

theorem witness_UndefinedShowsNothing :
    ∃ t r, step (ports 0x1000 [0xFF, 0x12, 0x34]) = .next t ∧ t.out = .undefined r :=
  ⟨_, _, rfl, rfl⟩

theorem witness_InfoQueryGivesLengthAndEdges :
    (∃ t r, step (ports 0x1000 [0x20, 0x02]) = .next t ∧ t.out = .ok r) ∧
      (∃ t r, step (ports 0x1000 [0xFF]) = .next t ∧ t.out = .undefined r) :=
  ⟨⟨_, _, rfl, rfl⟩, ⟨_, _, rfl, rfl⟩⟩

theorem witness_QueriesOnUndefinedAndShort :
    (∃ t r, step (ports 0x1000 [0x87, 0x12]) = .next t ∧ t.out = .undefined r) ∧
      (∃ t, step (ports 0xFFFF [0x7E]) = .next t ∧ t.out = .short) :=
  ⟨⟨_, _, rfl, rfl⟩, ⟨_, rfl, rfl⟩⟩

theorem witness_ListingColumnIsConstant :
    ∃ t r, step (ports 0x1000 [0x1B]) = .next t ∧ t.out = .ok r :=
  ⟨_, _, rfl, rfl⟩

/-- Each clause: a shape of length 2, and one of length 1. -/
theorem witness_WordOperandsRoundTrip : Shape.wordImmediate.len = 2 ∧ Shape.indexed.len = 1 := by decide

theorem witness_QuirkTablesAreAdmitted : quirkExtraOk [0x04, 0x31, 0x3F] = true := by decide

/-- The reference table is admitted, and has a decode for each clause, the attested opcodes among them. -/
theorem witness_AdmittedTablesClassify :
    romOk Config.undefMnemonic referenceRom = true ∧
      (∃ r, blockDecode referenceRom 0x1000 (winOf [0x20, 0x80]) 2 = .ok r ∧ r.cat = .cond ∧ r.opcode = 0x20) ∧
      (∃ r, blockDecode referenceRom 0x1000 (winOf [0x9D, 0x40]) 2 = .ok r ∧ r.cat = .call) ∧
      (∃ r, blockDecode referenceRom 0x1000 (winOf [0x7E, 0x20, 0x00]) 3 = .ok r ∧ r.cat = .jump ∧
        r.opcode = 0x7E) ∧
      (∃ r, blockDecode referenceRom 0x1000 (winOf [0x39, 0x00]) 2 = .ok r ∧ r.mnem = .known .rts) ∧
      (∃ r, blockDecode referenceRom 0xFFFF (winOf [0x01]) 1 = .ok r ∧ r.opcode = 0x01) ∧
      (∃ r, blockDecode referenceRom 0xFFFE (winOf [0x86, 0x05]) 2 = .ok r ∧ r.opcode = 0x86) :=
  ⟨test_reference_rom_admitted, ⟨_, rfl, rfl, rfl⟩, ⟨_, rfl, rfl⟩, ⟨_, rfl, rfl, rfl⟩, ⟨_, rfl, rfl⟩,
    ⟨_, rfl, rfl⟩, ⟨_, rfl, rfl⟩⟩

/-- A range that ends at the top of the space, and a decoded state. -/
theorem witness_PatchWritesNopBytes :
    0xFFFD + 3 ≤ 65536 ∧ ∃ t r, step (ports 0x1000 [0x01]) = .next t ∧ t.out.record? = some r :=
  ⟨by decide, _, _, rfl, rfl⟩

theorem witness_PatchedRangeDecodesAsNops :
    romOk Config.undefMnemonic referenceRom = true ∧ (0xFFFD : Word).toNat + 3 ≤ 65536 :=
  ⟨test_reference_rom_admitted, by decide⟩

/-- Pins for each clause: status 1 and 2, then status 0 with cat 0, 1, 2 and 3. -/
theorem witness_OutputPinCodes :
    (ports 0xFFFF [0xFF]).statusPin = 1 ∧ (ports 0xFFFE [0x7E, 0x20]).statusPin = 2 ∧
      (∃ p, (ports 0xFFFF [0xFF]).pins = some p ∧ p.mnem = .sentinel) ∧
      (∃ p, (ports 0xFFFF [0x01]).pins = some p ∧ p.mnem = .known .nop ∧ p.cat = 0) ∧
      (∃ p, (ports 0xFFFE [0x2F, 0x80]).pins = some p ∧ p.mnem = .known .ble ∧ p.cat = 1) ∧
      (∃ p, (ports 0xFFFD [0xBD, 0x00, 0x10]).pins = some p ∧ p.mnem = .known .jsr ∧ p.cat = 2) ∧
      (∃ p, (ports 0x2008 [0x6E, 0x00]).pins = some p ∧ p.mnem = .known .jmp ∧ p.cat = 3) :=
  ⟨rfl, rfl, ⟨_, rfl, rfl⟩, ⟨_, rfl, rfl, rfl⟩, ⟨_, rfl, rfl, rfl⟩, ⟨_, rfl, rfl, rfl⟩, ⟨_, rfl, rfl, rfl⟩⟩

/-- The shape codes 0 to 7 on the pins, one opcode each (30_encoding.md R81). -/
theorem test_shape_pins :
    [[0x01], [0x86, 0x05], [0xCC, 0xAB, 0xCD], [0x20, 0x02], [0x7E, 0x20, 0x00], [0xAD, 0xFF], [0x75, 0xAA, 0x55],
        [0x6B, 0x01, 0x05]].map (fun b => (ports 0x1000 b).pins.map (fun p => p.shape.toNat)) =
      [some 0, some 1, some 2, some 3, some 4, some 5, some 6, some 7] := by decide

/-- Each clause: an old answer beside new inputs, a byte past `avail`, a shorter and a longer window, another address,
and a step. -/
theorem witness_PinsFollowTheInputs :
    (((ports 0x1000 [0x01]).drive (outAt 0x2000 [0x20, 0x02])).win = (ports 0x1000 [0x01]).win ∧
        ((ports 0x1000 [0x01]).drive (outAt 0x2000 [0x20, 0x02])).out ≠ (ports 0x1000 [0x01]).out) ∧
      (validBytes (packWin 0x4A 0x12 0x34) (ports 0x1000 [0x4A]).avail = (ports 0x1000 [0x4A]).bytes ∧
        packWin 0x4A 0x12 0x34 ≠ (ports 0x1000 [0x4A]).win) ∧
      (∃ p, (ports 0x1000 [0x4A]).pins = some p ∧
        (validBytes (packWin 0x4A 0x12 0x34) 3).take p.ilen.toNat =
          (ports 0x1000 [0x4A]).bytes.take p.ilen.toNat) ∧
      (∃ p q, (ports 0x1000 [0x20, 0x02]).pins = some p ∧
        { ports 0x1000 [0x20, 0x02] with addr := 0xFFFE }.pins = some q ∧ q.nextAddr ≠ p.nextAddr) ∧
      (∃ t, step (ports 0x1000 [0x20, 0x02]) = .next t) :=
  ⟨⟨rfl, by decide⟩, ⟨rfl, by decide⟩, ⟨_, rfl, rfl⟩, ⟨_, _, rfl, rfl, by decide⟩, ⟨_, rfl⟩⟩

/-- Each clause: the first and the last byte of a word, and a word under a `QUIRK_EXTRA` that admits its instruction. -/
theorem witness_EncodingWordRoundTrip :
    (encode (.jsrExt 0xFFFE))[0]? = some 0xBD ∧ (encode (.jsrExt 0xFFFE))[2]? = some 0xFE ∧
      decodeEncodingWord [0x31] 2 0x3133 = some (.ins (some 0x33)) ∧
      (Instr.ins (some 0x33)).wfWith [0x31] = true ∧ 2 = (encode (.ins (some 0x33))).length := by decide

/-- A table that is refused, and one that is admitted. -/
theorem witness_UnadmittedTablesAreRefused :
    romOk "???" (romWith 0x39 (row .rts .none)) = false ∧ romOk Config.undefMnemonic referenceRom = true :=
  ⟨by decide +kernel, test_reference_rom_admitted⟩

end Sys2Proof.Tests
end

section
/-! O25: a step is a function of the input ports alone (10_state.md R40).

Every instruction that the decoder answers drives one row, and driving a row, like driving `SHORT` or `UNDEFINED`,
overwrites the last answer without reading it.  So a step answers one and the same next state whatever the last answer
was. -/

namespace Sys2Proof.Machine

/-! ## Driving the outputs overwrites the last answer -/

@[simp] theorem driveRow_drive (op : Byte) (m : Mnemonic) (S : Shape) (v : Word) (s : State) (o : Outputs) :
    driveRow op m S v (s.drive o) = driveRow op m S v s := rfl

@[simp] theorem driveUndefined_drive (op : Byte) (s : State) (o : Outputs) :
    driveUndefined op (s.drive o) = driveUndefined op s := rfl

@[simp] theorem driveShort_drive (s : State) (o : Outputs) : driveShort (s.drive o) = driveShort s := rfl

theorem driveRow_next (op : Byte) (m : Mnemonic) (S : Shape) (v : Word) (s : State) :
    ∃ o, driveRow op m S v s = .next (s.drive o) := by
  obtain ⟨-, h⟩ | ⟨-, h⟩ := driveRow_cases op m S v s
  · exact ⟨_, h⟩
  · exact ⟨_, h⟩

/-- States with equal input ports differ in the last answer only. -/
theorem State.eq_drive_of_inputs {s s' : State} (ha : s'.addr = s.addr) (hw : s'.win = s.win)
    (hv : s'.avail = s.avail) : s' = s.drive s'.out := by
  cases s
  cases s'
  simp_all [State.drive]

/-! ## Every decoded instruction drives one row -/

/-- What a row's form makes of its operand bytes drives that row, at one operand value for every state. -/
theorem RowMeaning.exec_eq_driveRow {op : Byte} {f : OperandForm} {e : Option RomEntry} {isQuirk : Bool}
    {rest : List Byte} {i : Instr} (hr : RowMeaning op (some f) e) (hb : f.build isQuirk rest = some i) :
    ∃ m S v, ∀ s, exec i s = driveRow op m S v s := by
  obtain rfl | ⟨mk, rfl, -, rfl⟩ | ⟨mk, b, -, rfl, -, -, rfl⟩ | ⟨mk, b, -, rfl, -, rfl⟩ |
    ⟨mk, b1, b2, -, rfl, -, rfl⟩ | ⟨mk, b1, b2, -, rfl, -, rfl⟩ := OperandForm.build_cases hb
  · cases hr with | fixed _ m _ h => exact ⟨m, .none, 0, h⟩
  · cases hr with | quirkable _ m h => exact ⟨m, .none, 0, h none⟩
  · cases hr with | quirkable _ m h => exact ⟨m, .byteAddress, zext16 b, h (some b)⟩
  · cases hr with | byte _ m S _ _ h => exact ⟨m, S, zext16 b, h b⟩
  · cases hr with | word _ m S _ _ h => exact ⟨m, S, wordOf b1 b2, h (wordOf b1 b2)⟩
  · cases hr with | pair _ m S _ _ h => exact ⟨m, S, wordOf b1 b2, h b1 b2⟩

/-- An instruction that the decoder answers drives the row of the opcode byte. -/
theorem exec_eq_driveRow_of_decodeWith {quirk : List Byte} {op : Byte} {rest : List Byte} {i : Instr}
    (hd : decodeWith quirk (op :: rest) = .ok i) : ∃ m S v, ∀ s, exec i s = driveRow op m S v s := by
  obtain ⟨-, h⟩ | ⟨f, -, -, h⟩ | ⟨f, j, hf, hb, h⟩ := decodeWith_cons quirk op rest
  · cases hd.symm.trans h
  · cases hd.symm.trans h
  · cases hd.symm.trans h
    exact (hf ▸ rowMeaning op).exec_eq_driveRow hb

/-! ## What a step can do -/

/-- Everything a step can do: it drives `SHORT`, `UNDEFINED`, or one row, and which one rests on the valid bytes
alone. -/
theorem stepWith_cases (quirk : List Byte) (bytes : List Byte) :
    (∀ s : State, s.bytes = bytes → stepWith quirk s = driveShort s) ∨
    (∃ op, ∀ s : State, s.bytes = bytes → stepWith quirk s = driveUndefined op s) ∨
    (∃ op m S v, ∀ s : State, s.bytes = bytes → stepWith quirk s = driveRow op m S v s) := by
  cases hd : decodeWith quirk bytes with
  | error e =>
    cases e with
    | short => exact .inl fun s hs => by simp only [stepWith, hs, hd]
    | undefinedOpcode op => exact .inr (.inl ⟨op, fun s hs => by simp only [stepWith, hs, hd]⟩)
  | ok i =>
    cases bytes with
    | nil => cases hd
    | cons op rest =>
      obtain ⟨m, S, v, h⟩ := exec_eq_driveRow_of_decodeWith hd
      exact .inr (.inr ⟨op, m, S, v, fun s hs => by simp only [stepWith, hs, hd, h]⟩)

/-- A step answers a next state, which differs in the last answer only. -/
theorem stepWith_next (quirk : List Byte) (s : State) : ∃ o, stepWith quirk s = .next (s.drive o) := by
  obtain h | ⟨op, h⟩ | ⟨op, m, S, v, h⟩ := stepWith_cases quirk s.bytes
  · exact ⟨_, (h s rfl).trans (driveShort_eq s)⟩
  · exact ⟨_, (h s rfl).trans (driveUndefined_eq op s)⟩
  · rw [h s rfl]
    exact driveRow_next op m S v s

/-- A step does not read the last answer (10_state.md R40). -/
@[simp] theorem stepWith_drive (quirk : List Byte) (s : State) (o : Outputs) :
    stepWith quirk (s.drive o) = stepWith quirk s := by
  have hb : (s.drive o).bytes = s.bytes := State.drive_bytes s o
  obtain h | ⟨op, h⟩ | ⟨op, m, S, v, h⟩ := stepWith_cases quirk s.bytes
  · rw [h s rfl, h _ hb, driveShort_drive]
  · rw [h s rfl, h _ hb, driveUndefined_drive]
  · rw [h s rfl, h _ hb, driveRow_drive]

/-- Settles O25: states with equal input ports differ in the last answer only, and a step does not read it. -/
theorem equalInputsGiveEqualOutputs : Obligations.EqualInputsGiveEqualOutputs := by
  intro s s' ha hw hv
  obtain ⟨o, ho⟩ := stepWith_next Config.quirkExtra s
  have hs : stepWith Config.quirkExtra s' = stepWith Config.quirkExtra s := by
    rw [State.eq_drive_of_inputs ha hw hv, stepWith_drive]
  exact ⟨s.drive o, s.drive o, ho, hs.trans ho, rfl⟩

end Sys2Proof.Machine
end

section
/-! One step is the block's decode (30_encoding.md R88) on the input ports.

The spec writes the block as `Decode` over a table; the model runs the decoded instruction's own meaning.  Row by row
(`RowMeaning`) the two agree, so what a step answers is read off the table: `step_eq_drive_outputs`. -/

namespace Sys2Proof

/-- A form makes the same instruction of any leading bytes that hold its operand. -/
theorem OperandForm.build_take_of_size_le {isQuirk : Bool} {f : OperandForm} {n : Nat} (h : f.size isQuirk ≤ n)
    (rest : List Byte) : f.build isQuirk (rest.take n) = f.build isQuirk rest := by
  rw [f.build_take, List.take_take, Nat.min_eq_left h, ← f.build_take]

namespace Machine

/-! ## The table under `QUIRK_EXTRA`, slot by slot -/

/-- A present slot of opcode `op` under a value of `QUIRK_EXTRA` (30_encoding.md R94). -/
def RomEntry.underQuirk (quirk : List Byte) (op : Byte) (e : RomEntry) : RomEntry :=
  if quirk.contains op then { e with shape := .byteAddress } else e

theorem RomEntry.underQuirk_of_contains {quirk : List Byte} {op : Byte} (h : quirk.contains op = true) (e : RomEntry) :
    e.underQuirk quirk op = { e with shape := .byteAddress } := if_pos h

theorem RomEntry.underQuirk_of_not_contains {quirk : List Byte} {op : Byte} (h : quirk.contains op = false)
    (e : RomEntry) : e.underQuirk quirk op = e := if_neg (by rw [h]; exact Bool.false_ne_true)

/-- `RomEntry.underQuirk` is what `withQuirk` does to a slot. -/
theorem romLookup_withQuirk (quirk : List Byte) (rom : RomTable) (op : Byte) :
    romLookup (withQuirk quirk rom) op = (romLookup rom op).map (RomEntry.underQuirk quirk op) := by
  rw [romLookup, romLookup, withQuirk, quirkFrom_getElem?, Nat.zero_add, BitVec.ofNat_toNat, BitVec.setWidth_eq]
  rcases rom[op.toNat]? with _ | _ | e
  · rfl
  · simp
  · cases h : quirk.contains op
    · simp only [RomEntry.underQuirk_of_not_contains h, Option.map_some, Option.join_some,
        Bool.false_eq_true, if_false]
    · simp only [RomEntry.underQuirk_of_contains h, Option.map_some, Option.join_some, if_true]

/-- An admissible value of `QUIRK_EXTRA` names no opcode outside its domain. -/
theorem not_contains_of_quirkExtraOk {quirk : List Byte} {op : Byte} (hq : quirkExtraOk quirk = true)
    (hop : quirkDomain.contains op = false) : quirk.contains op = false := by
  by_contra h
  have hmem : op ∈ quirk := List.contains_iff_mem.mp (eq_true_of_ne_false h)
  exact Bool.false_ne_true (hop.symm.trans (List.all_eq_true.mp hq op hmem))

/-! ## The operand value of a shape -/

theorem operandValue_of_len_zero {S : Shape} (h : S.len = 0) (b1 b2 : Byte) : operandValue S b1 b2 = 0 := by
  simp only [operandValue, h]

theorem operandValue_of_len_one {S : Shape} (h : S.len = 1) (b1 b2 : Byte) : operandValue S b1 b2 = zext16 b1 := by
  simp only [operandValue, h]

theorem operandValue_of_len_two {S : Shape} (h : S.len = 2) (b1 b2 : Byte) : operandValue S b1 b2 = wordOf b1 b2 := by
  simp only [operandValue, h]

/-! ## The decoded instruction drives the slot's row -/

/-- With both bytes after the opcode present, a row's form takes as many of them as the slot's shape, and its
instruction drives the slot's outputs at the operand value that the shape assembles. -/
theorem RowMeaning.build_drives {quirk : List Byte} {op : Byte} {f : OperandForm} {e : RomEntry}
    (hr : RowMeaning op (some f) (some e)) (hq : quirkExtraOk quirk = true) (b1 b2 : Byte) :
    f.size (quirk.contains op) = (e.underQuirk quirk op).shape.len ∧
      ∃ i, f.build (quirk.contains op) [b1, b2] = some i ∧
        ∀ s, exec i s = driveRow op (e.underQuirk quirk op).mnem (e.underQuirk quirk op).shape
          (operandValue (e.underQuirk quirk op).shape b1 b2) s := by
  cases hr with
  | fixed i m hop h =>
    rw [RomEntry.underQuirk_of_not_contains (not_contains_of_quirkExtraOk hq hop)]
    exact ⟨rfl, i, rfl, h⟩
  | quirkable mk m h =>
    cases hc : quirk.contains op with
    | false =>
      rw [RomEntry.underQuirk_of_not_contains hc]
      exact ⟨rfl, mk none, rfl, h none⟩
    | true =>
      rw [RomEntry.underQuirk_of_contains hc]
      exact ⟨rfl, mk (some b1), rfl, h (some b1)⟩
  | byte mk m S hop hS h =>
    rw [RomEntry.underQuirk_of_not_contains (not_contains_of_quirkExtraOk hq hop), operandValue_of_len_one hS]
    exact ⟨hS.symm, mk b1, rfl, h b1⟩
  | word mk m S hop hS h =>
    rw [RomEntry.underQuirk_of_not_contains (not_contains_of_quirkExtraOk hq hop), operandValue_of_len_two hS]
    exact ⟨hS.symm, mk (wordOf b1 b2), rfl, h (wordOf b1 b2)⟩
  | pair mk m S hop hS h =>
    rw [RomEntry.underQuirk_of_not_contains (not_contains_of_quirkExtraOk hq hop), operandValue_of_len_two hS]
    exact ⟨hS.symm, mk b1 b2, rfl, h b1 b2⟩

/-! ## The block's decode, by the slot of the opcode byte -/

theorem blockDecode_of_avail_zero {rom : RomTable} {addr : Word} {win : BitVec 24} {avail : BitVec 2}
    (h : avail.toNat = 0) : blockDecode rom addr win avail = .short := if_pos h

theorem blockDecode_of_absent {rom : RomTable} {addr : Word} {win : BitVec 24} {avail : BitVec 2}
    (h0 : avail.toNat ≠ 0) (hl : romLookup rom (winB0 win) = none) :
    blockDecode rom addr win avail = .undefined (undefinedRecord (winB0 win) addr) := by
  simp only [blockDecode, h0, hl, if_false]

theorem blockDecode_of_present {rom : RomTable} {addr : Word} {win : BitVec 24} {avail : BitVec 2} {e : RomEntry}
    (h0 : avail.toNat ≠ 0) (hl : romLookup rom (winB0 win) = some e) :
    blockDecode rom addr win avail =
      if avail.toNat < 1 + e.shape.len then .short
      else .ok (okRecord (winB0 win) e.mnem e.shape (operandValue e.shape (winB1 win) (winB2 win)) addr) := by
  simp only [blockDecode, h0, hl, if_false]

/-! ## A step, by the slot of the opcode byte -/

/-- The valid bytes of a nonempty window: the opcode byte, then as many of the other two as are valid. -/
theorem State.bytes_eq_cons {s : State} (h : s.avail.toNat ≠ 0) :
    s.bytes = winB0 s.win :: [winB1 s.win, winB2 s.win].take (s.avail.toNat - 1) := by
  obtain ⟨n, hn⟩ := Nat.exists_eq_succ_of_ne_zero h
  rw [State.bytes, validBytes, hn, List.take_succ_cons, Nat.succ_sub_one]

theorem stepWith_of_avail_zero (quirk : List Byte) {s : State} (h : s.avail.toNat = 0) :
    stepWith quirk s = .next (s.drive .short) := by
  have hb : s.bytes = [] := by rw [State.bytes, validBytes, h, List.take_zero]
  simp only [stepWith, hb, decodeWith_nil, driveShort_eq]

theorem stepWith_of_absent (quirk : List Byte) {s : State} (h0 : s.avail.toNat ≠ 0)
    (hf : findRow (winB0 s.win) opcodeRows = none) :
    stepWith quirk s = .next (s.drive (.undefined (undefinedRecord (winB0 s.win) s.addr))) := by
  simp only [stepWith, State.bytes_eq_cons h0, decodeWith, hf, driveUndefined_eq]

/-- On a present slot a step drives `SHORT` where the window is too short for the slot's shape, else the slot's row. -/
theorem stepWith_of_present {quirk : List Byte} (hq : quirkExtraOk quirk = true) {s : State} {f : OperandForm}
    {e : RomEntry} (h0 : s.avail.toNat ≠ 0) (hf : findRow (winB0 s.win) opcodeRows = some f)
    (hr : RowMeaning (winB0 s.win) (some f) (some e)) :
    stepWith quirk s =
      driveRow (winB0 s.win) (e.underQuirk quirk (winB0 s.win)).mnem (e.underQuirk quirk (winB0 s.win)).shape
        (operandValue (e.underQuirk quirk (winB0 s.win)).shape (winB1 s.win) (winB2 s.win)) s := by
  obtain ⟨hsize, i, hb, hi⟩ := hr.build_drives hq (winB1 s.win) (winB2 s.win)
  by_cases hv : f.size (quirk.contains (winB0 s.win)) ≤ s.avail.toNat - 1
  · have hbuild := (OperandForm.build_take_of_size_le hv [winB1 s.win, winB2 s.win]).trans hb
    simp only [stepWith, State.bytes_eq_cons h0, decodeWith, hf, hbuild, hi]
  · have hshort : f.build (quirk.contains (winB0 s.win))
        ([winB1 s.win, winB2 s.win].take (s.avail.toNat - 1)) = none := by
      have hlen := List.length_take_le (s.avail.toNat - 1) [winB1 s.win, winB2 s.win]
      rw [← Option.isNone_iff_eq_none, ← Option.not_isSome, f.build_isSome]
      simp only [Bool.not_eq_true', decide_eq_false_iff_not]
      omega
    rw [driveRow_short (by omega)]
    simp only [stepWith, State.bytes_eq_cons h0, decodeWith, hf, hshort, driveShort_eq]

/-- A step is the block's decode of the input ports under the same table, for every admissible `QUIRK_EXTRA`. -/
theorem stepWith_eq_drive_blockDecode {quirk : List Byte} (hq : quirkExtraOk quirk = true) (s : State) :
    stepWith quirk s = .next (s.drive (blockDecode (withQuirk quirk referenceRom) s.addr s.win s.avail)) := by
  have hlookup := romLookup_withQuirk quirk referenceRom (winB0 s.win)
  by_cases h0 : s.avail.toNat = 0
  · rw [stepWith_of_avail_zero quirk h0, blockDecode_of_avail_zero h0]
  · cases hf : findRow (winB0 s.win) opcodeRows with
    | none =>
      rw [romLookup_absent hf, Option.map_none] at hlookup
      rw [stepWith_of_absent quirk h0 hf, blockDecode_of_absent h0 hlookup]
    | some f =>
      have hr := hf ▸ rowMeaning (winB0 s.win)
      obtain ⟨e, he⟩ : ∃ e, romLookup referenceRom (winB0 s.win) = some e := by
        cases h : romLookup referenceRom (winB0 s.win) with
        | none => rw [h] at hr; cases hr
        | some e => exact ⟨e, rfl⟩
      rw [he, Option.map_some] at hlookup
      rw [stepWith_of_present hq h0 hf (he ▸ hr), blockDecode_of_present h0 hlookup]
      by_cases hv : s.avail.toNat < 1 + (e.underQuirk quirk (winB0 s.win)).shape.len
      · rw [driveRow_short hv, if_pos hv]
      · rw [driveRow_ok (Nat.le_of_not_lt hv), if_neg hv]

/-- A step drives the output ports as the inputs stand (10_state.md R30, R41). -/
theorem step_eq_drive_outputs (s : State) : step s = .next (s.drive s.outputs) :=
  stepWith_eq_drive_blockDecode rfl s

/-- Everything a step with a decoded length can do: the record of an absent slot at the opcode byte, or the record of
a present one whose operand bytes are all valid. -/
theorem step_record_cases {s t : State} {r : DecodeRecord} (hst : step s = .next t) (hr : t.out.record? = some r) :
    (s.avail.toNat ≠ 0 ∧ romLookup configuredRom (winB0 s.win) = none ∧ t = s.drive (.undefined r) ∧
      r = undefinedRecord (winB0 s.win) s.addr) ∨
    (∃ e, romLookup configuredRom (winB0 s.win) = some e ∧ 1 + e.shape.len ≤ s.avail.toNat ∧ t = s.drive (.ok r) ∧
      r = okRecord (winB0 s.win) e.mnem e.shape (operandValue e.shape (winB1 s.win) (winB2 s.win)) s.addr) := by
  rw [step_eq_drive_outputs] at hst
  cases hst
  rw [State.drive_out] at hr
  obtain ⟨-, ho⟩ | ⟨h0, hl, ho⟩ | ⟨_, -, -, -, ho⟩ | ⟨e, hl, hv, ho⟩ :=
    blockDecode_cases configuredRom s.addr s.win s.avail
  · rw [State.outputs, ho] at hr; cases hr
  · rw [State.outputs, ho] at hr ⊢; cases hr
    exact .inl ⟨h0, hl, rfl, rfl⟩
  · rw [State.outputs, ho] at hr; cases hr
  · rw [State.outputs, ho] at hr ⊢; cases hr
    exact .inr ⟨e, hl, hv, rfl, rfl⟩

/-- What a step with status OK did. -/
theorem step_ok_cases {s t : State} {r : DecodeRecord} (hst : step s = .next t) (hr : t.out = .ok r) :
    ∃ e, romLookup configuredRom (winB0 s.win) = some e ∧ 1 + e.shape.len ≤ s.avail.toNat ∧
      r = okRecord (winB0 s.win) e.mnem e.shape (operandValue e.shape (winB1 s.win) (winB2 s.win)) s.addr := by
  obtain ⟨-, -, ht, -⟩ | ⟨e, hl, hv, -, h⟩ := step_record_cases hst (by rw [hr, Outputs.record_ok])
  · rw [ht, State.drive_out] at hr; cases hr
  · exact ⟨e, hl, hv, h⟩

end Machine

end Sys2Proof
end

section
/-! O41: a decode reads its `1 + oplen` bytes and no other (20_memory.md R65). -/

namespace Sys2Proof.Machine

/-! ## The lengths of a record -/

theorem toNat_ofNat_shape_len (S : Shape) : (BitVec.ofNat 2 S.len).toNat = S.len := by
  have := shape_len_le S
  rw [BitVec.toNat_ofNat]; omega

theorem toNat_ofNat_succ_shape_len (S : Shape) : (BitVec.ofNat 2 (1 + S.len)).toNat = 1 + S.len := by
  have := shape_len_le S
  rw [BitVec.toNat_ofNat]; omega

theorem shape_len_of_ofNat_eq_one {S : Shape} (h : BitVec.ofNat 2 S.len = 1) : S.len = 1 := by
  rw [← toNat_ofNat_shape_len, h]; rfl

theorem shape_len_of_ofNat_eq_two {S : Shape} (h : BitVec.ofNat 2 S.len = 2) : S.len = 2 := by
  rw [← toNat_ofNat_shape_len, h]; rfl

/-! ## Windows that agree on their first bytes -/

/-- A window that shows the first `n` valid bytes of another has `n` valid bytes itself, and they are the same. -/
theorem validBytes_take_eq {w w' : BitVec 24} {a a' : BitVec 2} {n : Nat} (hn : n ≤ a.toNat)
    (h : (validBytes w' a').take n = (validBytes w a).take n) :
    n ≤ a'.toNat ∧ [winB0 w', winB1 w', winB2 w'].take n = [winB0 w, winB1 w, winB2 w].take n := by
  have hlen := congrArg List.length h
  rw [List.length_take, List.length_take, validBytes_length, validBytes_length] at hlen
  have hn' : n ≤ a'.toNat := by omega
  rw [validBytes, validBytes, List.take_take, List.take_take, Nat.min_eq_left hn, Nat.min_eq_left hn'] at h
  exact ⟨hn', h⟩

/-- Operand assembly reads the operand bytes of the shape only. -/
theorem operandValue_congr {S : Shape} {b1 b2 c1 c2 : Byte} (h : [c1, c2].take S.len = [b1, b2].take S.len) :
    operandValue S c1 c2 = operandValue S b1 b2 := by
  obtain hS | hS | hS : S.len = 0 ∨ S.len = 1 ∨ S.len = 2 := by have := shape_len_le S; omega
  · rw [operandValue_of_len_zero hS, operandValue_of_len_zero hS]
  · rw [hS] at h; cases h
    rw [operandValue_of_len_one hS, operandValue_of_len_one hS]
  · rw [hS] at h; cases h; rfl

/-- A decode that gives a length answers the same on every window with the same first `ilen` valid bytes. -/
theorem outputs_eq_of_take_ilen_eq {s t : State} {r : DecodeRecord} (hst : step s = .next t)
    (hr : t.out.record? = some r) {w : BitVec 24} {a : BitVec 2}
    (h : (validBytes w a).take r.ilen.toNat = s.bytes.take r.ilen.toNat) :
    blockDecode configuredRom s.addr w a = t.out := by
  obtain ⟨h0, hl, rfl, rfl⟩ | ⟨e, hl, hv, rfl, rfl⟩ := step_record_cases hst hr
  · have h1 : 1 ≤ s.avail.toNat := Nat.one_le_iff_ne_zero.mpr h0
    obtain ⟨h1', hb⟩ := validBytes_take_eq h1 h
    have hop : winB0 w = winB0 s.win := List.head_eq_of_cons_eq hb
    rw [blockDecode_of_absent (Nat.one_le_iff_ne_zero.mp h1') (hop ▸ hl), hop, State.drive_out]
  · rw [okRecord_ilen, toNat_ofNat_succ_shape_len] at h
    obtain ⟨hv', hb⟩ := validBytes_take_eq hv h
    rw [Nat.add_comm, List.take_succ_cons, List.take_succ_cons] at hb
    have hop : winB0 w = winB0 s.win := List.head_eq_of_cons_eq hb
    rw [blockDecode_of_present (by omega) (hop ▸ hl), if_neg (by omega), hop,
      operandValue_congr (List.tail_eq_of_cons_eq hb), State.drive_out]

/-! ## The clauses of O41 -/

/-- The lengths of a decode (30_encoding.md R90). -/
theorem step_ilen_eq_succ_oplen {s t : State} {r : DecodeRecord} (hst : step s = .next t)
    (hr : t.out.record? = some r) : r.ilen.toNat = 1 + r.oplen.toNat ∧ r.oplen.toNat ≤ 2 := by
  obtain ⟨-, -, -, rfl⟩ | ⟨e, -, -, -, rfl⟩ := step_record_cases hst hr
  · exact ⟨rfl, Nat.zero_le 2⟩
  · rw [okRecord_ilen, okRecord_oplen, toNat_ofNat_succ_shape_len, toNat_ofNat_shape_len]
    exact ⟨rfl, shape_len_le e.shape⟩

/-- A one-byte operand is zero-extended, so its value is a byte's (30_encoding.md R86). -/
theorem step_opval_lt_of_oplen_one {s t : State} {r : DecodeRecord} (hst : step s = .next t)
    (hr : t.out.record? = some r) (h1 : r.oplen = 1) : r.opval.toNat < 256 := by
  obtain ⟨-, -, -, rfl⟩ | ⟨e, -, -, -, rfl⟩ := step_record_cases hst hr
  · exact Nat.zero_lt_succ 255
  · rw [okRecord_opval, operandValue_of_len_one (shape_len_of_ofNat_eq_one h1), toNat_zext16]
    exact BitVec.isLt _

/-- A step changes no input port, so a second one answers the same. -/
theorem step_idem {s t : State} (hst : step s = .next t) : step t = .next t := by
  rw [step_eq_drive_outputs] at hst
  cases hst
  rw [step_eq_drive_outputs, State.drive_outputs, State.drive_drive]

/-- Settles O41: the lengths and the operand value are those of the slot's shape, and the decode reads the first `ilen`
valid bytes only. -/
theorem consumesOnlyItsBytes : Obligations.ConsumesOnlyItsBytes := by
  intro s t r hst hr
  obtain ⟨hilen, hoplen⟩ := step_ilen_eq_succ_oplen hst hr
  refine ⟨hilen, by omega, by omega, step_opval_lt_of_oplen_one hst hr, step_idem hst, fun w a hb => ?_⟩
  rw [← outputs_eq_of_take_ilen_eq hst hr hb]
  exact step_eq_drive_outputs { s with win := w, avail := a }

end Sys2Proof.Machine
end

section
/-! O44: operand bytes stand high byte first (20_memory.md R63). -/

namespace Sys2Proof.Machine

/-- The two-field shapes take two operand bytes. -/
theorem shape_len_of_two_fields {S : Shape} (h : S = .directMemory ∨ S = .immediateIndexed) : S.len = 2 := by
  obtain rfl | rfl := h
  · rfl
  · rfl

/-- Settles O44: a step with status OK drives the opcode byte and the operand value of the slot's shape, which for a
two-byte shape is the big-endian word of the second and the third byte. -/
theorem bigEndianOperands : Obligations.BigEndianOperands := by
  refine ⟨rfl, fun s t r hst hr => ?_⟩
  obtain ⟨e, -, -, rfl⟩ := step_ok_cases hst hr
  refine ⟨rfl, fun h2 => ?_, fun hS => ?_⟩
  · rw [okRecord_opval, operandValue_of_len_two (shape_len_of_ofNat_eq_two h2), toNat_wordOf]
  · rw [okRecord_shape] at hS
    rw [okRecord_fhi, okRecord_flo, operandValue_of_len_two (shape_len_of_two_fields hS), hiByte_wordOf,
      loByte_wordOf]
    exact ⟨rfl, rfl⟩

end Sys2Proof.Machine
end

section
/-! O37: `fhi` and `flo` are the two bytes of `opval` (30_encoding.md R87). -/

namespace Sys2Proof.Machine

/-- Settles O37: every row drives the two bytes of its operand value, which a two-field shape assembles from the two
operand bytes and a one-byte shape extends with zeros. -/
theorem fieldSplit : Obligations.FieldSplit := by
  intro s t r hst hr
  obtain ⟨e, -, -, rfl⟩ := step_ok_cases hst hr
  rw [okRecord_fhi, okRecord_flo, okRecord_opval, okRecord_shape]
  refine ⟨toNat_hiByte _, toNat_loByte _, fun hS => ?_, fun hS => ?_⟩
  · rw [operandValue_of_len_two (shape_len_of_two_fields hS), hiByte_wordOf, loByte_wordOf]
    exact ⟨rfl, rfl⟩
  · rw [operandValue_of_len_one hS, hiByte_zext16]

end Sys2Proof.Machine
end

section
/-! O38: `addr` decides `next_addr` and the edge targets only (30_encoding.md R89). -/

namespace Sys2Proof.Machine

/-- Which outcome a decode has, and which row it drives at which operand value, is settled without the address. -/
theorem blockDecode_cases_uniform_in_addr (rom : RomTable) (win : BitVec 24) (avail : BitVec 2) :
    (∀ a, blockDecode rom a win avail = .short) ∨
    (∀ a, blockDecode rom a win avail = .undefined (undefinedRecord (winB0 win) a)) ∨
    (∃ m S v, ∀ a, blockDecode rom a win avail = .ok (okRecord (winB0 win) m S v a)) := by
  by_cases h0 : avail.toNat = 0
  · exact .inl fun _ => blockDecode_of_avail_zero h0
  · cases hl : romLookup rom (winB0 win) with
    | none => exact .inr (.inl fun _ => blockDecode_of_absent h0 hl)
    | some e =>
      by_cases hv : avail.toNat < 1 + e.shape.len
      · exact .inl fun _ => by rw [blockDecode_of_present h0 hl, if_pos hv]
      · exact .inr (.inr ⟨_, _, _, fun _ => by rw [blockDecode_of_present h0 hl, if_neg hv]⟩)

/-- The category alone decides whether the first edge is valid and its kind. -/
theorem firstEdge_kind_congr (c : Category) (a a' v : Word) :
    (firstEdge c a v).map (fun e => e.kind) = (firstEdge c a' v).map (fun e => e.kind) := by
  cases c <;> rfl

/-- The category alone decides whether the second edge is valid and its kind. -/
theorem secondEdge_kind_congr (c : Category) (a a' : Word) (n : BitVec 2) :
    (secondEdge c a n).map (fun e => e.kind) = (secondEdge c a' n).map (fun e => e.kind) := by
  cases c <;> rfl

/-- Settles O38: both steps drive the same row, and a row's record uses the address in `next_addr` and in the targets
of its edges only. -/
theorem addressIndependence : Obligations.AddressIndependence := by
  intro s a
  refine ⟨_, _, step_eq_drive_outputs s, step_eq_drive_outputs { s with addr := a }, ?_⟩
  simp only [State.drive_out, State.outputs]
  obtain h | h | ⟨m, S, v, h⟩ := blockDecode_cases_uniform_in_addr configuredRom s.win s.avail
  · rw [h, h]
    exact ⟨rfl, Iff.rfl, fun _ _ hr => by cases hr⟩
  · rw [h, h]
    refine ⟨rfl, iff_of_false (Option.some_ne_none _) (Option.some_ne_none _), ?_⟩
    rintro _ _ ⟨⟩ ⟨⟩
    exact ⟨rfl, rfl, rfl⟩
  · rw [h, h]
    refine ⟨rfl, iff_of_false (Option.some_ne_none _) (Option.some_ne_none _), ?_⟩
    rintro _ _ ⟨⟩ ⟨⟩
    exact ⟨rfl, firstEdge_kind_congr _ _ _ _, secondEdge_kind_congr _ _ _ _⟩

end Sys2Proof.Machine
end

section
/-! O46: an undefined opcode shows nothing (30_encoding.md R107). -/

namespace Sys2Proof.Machine

/-- What a step with status UNDEFINED did. -/
theorem step_undefined_cases {s t : State} {r : DecodeRecord} (hst : step s = .next t) (hr : t.out = .undefined r) :
    romLookup configuredRom (winB0 s.win) = none ∧ r = undefinedRecord (winB0 s.win) s.addr := by
  obtain ⟨-, hl, -, h⟩ | ⟨_, -, -, ht, -⟩ := step_record_cases hst (by rw [hr, Outputs.record_undefined])
  · exact ⟨hl, h⟩
  · rw [ht, State.drive_out] at hr; cases hr

/-- Settles O46: the record of an absent slot has neither edge nor token, and the text query has no result for it. -/
theorem undefinedShowsNothing : Obligations.UndefinedShowsNothing := by
  intro s t r hst hr
  obtain ⟨-, rfl⟩ := step_undefined_cases hst hr
  rw [hr]
  exact ⟨undefinedRecord_tokens _ _, undefinedRecord_e0 _ _, undefinedRecord_e1 _ _, rfl⟩

end Sys2Proof.Machine
end

section
/-! O39 and O40: the lengths of a decode, and the opcode byte that tells them (30_encoding.md R90, R99). -/

namespace Sys2Proof.Machine

/-- The lengths 1, 2 and 3 are the only ones (30_encoding.md R90). -/
theorem step_ilen_cases {s t : State} {r : DecodeRecord} (hst : step s = .next t) (hr : t.out.record? = some r) :
    r.ilen = 1 ∨ r.ilen = 2 ∨ r.ilen = 3 := by
  obtain ⟨hilen, -⟩ := step_ilen_eq_succ_oplen hst hr
  refine (avail_cases r.ilen).resolve_left fun h0 => ?_
  rw [h0, BitVec.toNat_ofNat] at hilen
  omega

/-- Settles O39: every shape has at most two operand bytes, and a decode drives the lengths of its slot's shape, or
those of no operand where the slot is absent. -/
theorem lengthBounds : Obligations.LengthBounds := by
  refine ⟨fun _ e _ => Nat.add_le_add_left (shape_len_le e.shape) 1, fun s t r hst hr => ?_, fun s t r hst hr => ?_,
    fun s t r hst hr => ⟨step_ilen_cases hst hr, (step_ilen_eq_succ_oplen hst hr).1⟩⟩
  · obtain ⟨e, hl, -, rfl⟩ := step_ok_cases hst hr
    exact ⟨e, hl, okRecord_shape .., toNat_ofNat_shape_len e.shape⟩
  · obtain ⟨-, rfl⟩ := step_undefined_cases hst hr
    exact undefinedRecord_oplen _ _

/-- Settles O40: the slot of the opcode byte fixes the row that a step drives, and the row its length. -/
theorem lengthFromOpcodeByte : Obligations.LengthFromOpcodeByte := by
  intro s t r hst hr
  refine ⟨?_, step_ilen_cases hst hr⟩
  obtain ⟨-, hl, -, rfl⟩ | ⟨e, hl, -, -, rfl⟩ := step_record_cases hst hr
  · rw [hl, undefinedRecord_ilen]; rfl
  · rw [hl, okRecord_ilen, toNat_ofNat_succ_shape_len]

end Sys2Proof.Machine
end

section
/-! O33, O34, O35 and O47: the control-flow edges of a decode (41_control_transfer.md R303 to R309).

The category of the row decides which edges there are (`step_edge_cases`), and the two sums of the address ALU are
stated once, as `toNat_takenTarget` and `toNat_fallTarget`. -/

namespace Sys2Proof.Machine

/-! ## The two sums of the address ALU (41_control_transfer.md R303 to R305) -/

theorem toNat_fallTarget (addr : Word) (ilen : BitVec 2) :
    (fallTarget addr ilen).toNat = (addr.toNat + ilen.toNat) % 65536 := by
  have hlt := ilen.isLt
  rw [fallTarget, BitVec.toNat_add, BitVec.toNat_setWidth]
  omega

/-- The 16-bit sum with the sign-extended byte is the integer sum with the signed one, the carry discarded. -/
theorem toNat_takenTarget (addr opval : Word) :
    ((takenTarget addr opval).toNat : Int) = ((addr.toNat : Int) + signed8 (loByte opval) + 2) % 65536 := by
  have h2 : (2 : Word).toNat = 2 := rfl
  rw [takenTarget, BitVec.toNat_add, BitVec.toNat_add, toNat_sext16, signed8_eq, h2]
  split <;> omega

/-! ## A relative branch has one operand byte (`WF_BRANCH` of 00_scope.md R9) -/

theorem configuredRom_branch_holds : RomCheck.branch.holds Config.undefMnemonic configuredRom = true := by decide

/-- What `WF_BRANCH` says of a present slot. -/
theorem shape_eq_byteAddress_of_cond {undef : String} {rom : RomTable} {op : Byte} {e : RomEntry}
    (hb : RomCheck.branch.holds undef rom = true) (hl : romLookup rom op = some e) (hc : category e.mnem = .cond) :
    e.shape = .byteAddress := by
  have he := List.all_eq_true.mp hb e (mem_presentEntries_of_romLookup hl)
  simpa [hc] using he

/-- The displacement byte of a relative branch is zero-extended onto `opval` (41_control_transfer.md R303). -/
theorem step_hiByte_opval_of_cond {s t : State} {r : DecodeRecord} (hst : step s = .next t) (hr : t.out = .ok r)
    (hc : r.cat = .cond) : hiByte r.opval = 0 := by
  obtain ⟨e, hl, -, rfl⟩ := step_ok_cases hst hr
  have hS := shape_eq_byteAddress_of_cond configuredRom_branch_holds hl hc
  rw [okRecord_opval, operandValue_of_len_one (congrArg Shape.len hS), hiByte_zext16]

/-! ## The edges of a decode, by its category (41_control_transfer.md R302, R306 to R308) -/

/-- The edge ports of a decode that gives a length, and its `next_addr`, follow from its category, operand value and
length. -/
theorem step_ports {s t : State} {r : DecodeRecord} (hst : step s = .next t) (hr : t.out.record? = some r) :
    r.e0 = firstEdge r.cat s.addr r.opval ∧ r.e1 = secondEdge r.cat s.addr r.ilen ∧
      r.nextAddr = fallTarget s.addr r.ilen := by
  obtain ⟨-, -, -, rfl⟩ | ⟨e, -, -, -, rfl⟩ := step_record_cases hst hr
  · exact ⟨rfl, rfl, rfl⟩
  · exact ⟨rfl, rfl, rfl⟩

/-- Everything a valid edge can be. -/
theorem step_edge_cases {s t : State} {r : DecodeRecord} (hst : step s = .next t) (hr : t.out.record? = some r)
    {e : Edge} (he : e ∈ r.edges) :
    (r.cat = .cond ∧ e = ⟨.taken, takenTarget s.addr r.opval⟩) ∨ (r.cat = .cond ∧ e = ⟨.fallthrough, r.nextAddr⟩) ∨
    (r.cat = .call ∧ e = ⟨.call, r.opval⟩) ∨ (r.cat = .jump ∧ e = ⟨.uncond, r.opval⟩) := by
  obtain ⟨h0, h1, hnext⟩ := step_ports hst hr
  rw [DecodeRecord.edges, h0, h1] at he
  rw [hnext]
  cases hc : r.cat with
  | none => simp [hc] at he
  | cond | call | jump => simpa [hc] using he

/-- A relative branch has a taken edge (41_control_transfer.md R302). -/
theorem step_taken_mem_edges {s t : State} {r : DecodeRecord} (hst : step s = .next t) (hr : t.out.record? = some r)
    (hc : r.cat = .cond) : ⟨.taken, takenTarget s.addr r.opval⟩ ∈ r.edges := by
  obtain ⟨h0, -, -⟩ := step_ports hst hr
  simp [DecodeRecord.edges, h0, hc]

/-- A taken edge goes to the sum of R303. -/
theorem step_target_of_taken {s t : State} {r : DecodeRecord} (hst : step s = .next t) (hr : t.out.record? = some r)
    {e : Edge} (he : e ∈ r.edges) (hk : e.kind = .taken) : e.target = takenTarget s.addr r.opval := by
  obtain ⟨-, rfl⟩ | ⟨-, rfl⟩ | ⟨-, rfl⟩ | ⟨-, rfl⟩ := step_edge_cases hst hr he
  · rfl
  all_goals cases hk

/-! ## The statements -/

/-- Settles O33: the row of a relative branch has one operand byte, whose signed value is added to `addr` and 2. -/
theorem branchTakenTarget : Obligations.BranchTakenTarget := by
  intro s t r hst hr hc
  have hrec : t.out.record? = some r := by rw [hr, Outputs.record_ok]
  obtain ⟨hlo, hhi⟩ := signed8_range (loByte r.opval)
  refine ⟨step_hiByte_opval_of_cond hst hr hc, hlo, hhi, toInt_sext16 _,
    ⟨_, step_taken_mem_edges hst hrec hc, rfl⟩, fun e he hk => ?_⟩
  have htarget := step_target_of_taken hst hrec he hk
  exact ⟨htarget ▸ toNat_takenTarget s.addr r.opval, htarget⟩

/-- Settles O34: `next_addr` is the sum of `fallTarget`, and of the four edges that there can be only the taken one has
a sum of its own. -/
theorem addressAluWraps : Obligations.AddressAluWraps := by
  refine ⟨fun s t r hst hr => ⟨?_, fun e he => ?_⟩, by decide⟩
  · obtain ⟨-, -, hnext⟩ := step_ports hst hr
    rw [hnext, toNat_fallTarget]
  · obtain ⟨-, rfl⟩ | ⟨-, rfl⟩ | ⟨-, rfl⟩ | ⟨-, rfl⟩ := step_edge_cases hst hr he
    · exact toNat_takenTarget s.addr r.opval
    all_goals rfl

/-- Settles O35: the row drives the operand value that its shape assembles, and the category its one edge. -/
theorem jumpEdge : Obligations.JumpEdge := by
  intro s t r hst hr hc
  obtain ⟨h0, h1, -⟩ := step_ports hst (by rw [hr, Outputs.record_ok])
  obtain ⟨e, -, -, rfl⟩ := step_ok_cases hst hr
  refine ⟨rfl, ?_, ?_⟩
  · rw [h0, hc, firstEdge_jump]
  · rw [h1, hc, secondEdge_jump]

/-- Settles O47: the query answers `ilen`, which is `1 + oplen`, and the valid ones of the two edge ports. -/
theorem infoQueryGivesLengthAndEdges : Obligations.InfoQueryGivesLengthAndEdges := by
  refine ⟨fun s t r hst hr => ?_, fun s t r _ hr => by rw [hr, infoQuery]⟩
  obtain ⟨hilen, -⟩ := step_ilen_eq_succ_oplen hst (by rw [hr, Outputs.record_ok])
  rw [hr, infoQuery, hilen, DecodeRecord.edges]
  cases r.e0 <;> cases r.e1 <;> rfl

end Sys2Proof.Machine
end

section
/-! O27, O28: the encoder and the decoder are each other's inverse (30_encoding.md R80, R88).

A row's form makes an instruction of its operand bytes (`OperandForm.Makes`), and of no others; row by row the encoder
puts the opcode in front of those bytes, and the instruction is well-formed where there are as many of them as the form
takes (`RowEncodes`).  So the decoder answers an instruction on exactly the bytes that begin with its encoding:
`decodeWith_eq_ok_iff`. -/

namespace Sys2Proof

/-! ## What a form makes of its operand bytes -/

/-- The instructions of a row's form, each with its operand bytes in address order. -/
inductive OperandForm.Makes : OperandForm → List Byte → Instr → Prop
  | fixed (i : Instr) : Makes (.fixed i) [] i
  | quirkable (mk : Option Byte → Instr) (q : Option Byte) : Makes (.quirkable mk) (quirkBytes q) (mk q)
  | byte (mk : Byte → Instr) (b : Byte) : Makes (.byte mk) [b] (mk b)
  | word (mk : Word → Instr) (w : Word) : Makes (.word mk) [hiByte w, loByte w] (mk w)
  | pair (mk : Byte → Byte → Instr) (b1 b2 : Byte) : Makes (.pair mk) [b1, b2] (mk b1 b2)

/-- A form builds an instruction from the bytes that begin with its operand bytes, as many as the form takes. -/
theorem OperandForm.build_eq_some_iff {isQuirk : Bool} {f : OperandForm} {bytes : List Byte} {i : Instr} :
    f.build isQuirk bytes = some i ↔
      ∃ ops rest, f.Makes ops i ∧ ops.length = f.size isQuirk ∧ bytes = ops ++ rest := by
  constructor
  · intro h
    obtain rfl | ⟨mk, rfl, rfl, rfl⟩ | ⟨mk, b, t, rfl, rfl, rfl, rfl⟩ | ⟨mk, b, t, rfl, rfl, rfl⟩ |
      ⟨mk, b1, b2, t, rfl, rfl, rfl⟩ | ⟨mk, b1, b2, t, rfl, rfl, rfl⟩ := OperandForm.build_cases h
    · exact ⟨[], bytes, .fixed i, rfl, rfl⟩
    · exact ⟨[], bytes, .quirkable mk none, rfl, rfl⟩
    · exact ⟨[b], t, .quirkable mk (some b), rfl, rfl⟩
    · exact ⟨[b], t, .byte mk b, rfl, rfl⟩
    · have hmakes := Makes.word mk (wordOf b1 b2)
      rw [hiByte_wordOf, loByte_wordOf] at hmakes
      exact ⟨[b1, b2], t, hmakes, rfl, rfl⟩
    · exact ⟨[b1, b2], t, .pair mk b1 b2, rfl, rfl⟩
  · rintro ⟨ops, rest, hmakes, hlen, rfl⟩
    cases hmakes with
    | fixed | byte | pair => rfl
    | quirkable mk q =>
      match q, isQuirk, hlen with
      | none, false, _ => rfl
      | some _, true, _ => rfl
    | word mk w => simp only [List.cons_append, OperandForm.build, wordOf_hiByte_loByte]

/-! ## The encoding of a row's instructions -/

/-- The encoder puts a row's opcode in front of the operand bytes, and a row's instruction is well-formed where it has
as many operand bytes as its form takes (30_encoding.md R80, R94). -/
def RowEncodes (op : Byte) (f : OperandForm) : Prop :=
  ∀ ops i, f.Makes ops i →
    encode i = op :: ops ∧ ∀ quirk, i.wfWith quirk = true ↔ ops.length = f.size (quirk.contains op)

theorem rowEncodes_fixed {op : Byte} {i : Instr} (he : encode i = [op]) (hw : ∀ quirk, i.wfWith quirk = true) :
    RowEncodes op (.fixed i) := by
  rintro _ _ ⟨⟩
  exact ⟨he, fun quirk => iff_of_true (hw quirk) rfl⟩

theorem rowEncodes_quirkable {op : Byte} {mk : Option Byte → Instr} (he : ∀ q, encode (mk q) = op :: quirkBytes q)
    (hw : ∀ quirk q, (mk q).wfWith quirk = quirkFits quirk op q) : RowEncodes op (.quirkable mk) := by
  rintro _ _ ⟨⟩
  rename_i q
  refine ⟨he q, fun quirk => ?_⟩
  rw [hw, quirkFits]
  cases q <;> cases quirk.contains op <;> simp [quirkBytes, OperandForm.size]

theorem rowEncodes_byte {op : Byte} {mk : Byte → Instr} (he : ∀ b, encode (mk b) = [op, b])
    (hw : ∀ quirk b, (mk b).wfWith quirk = true) : RowEncodes op (.byte mk) := by
  rintro _ _ ⟨⟩
  exact ⟨he _, fun quirk => iff_of_true (hw quirk _) rfl⟩

theorem rowEncodes_word {op : Byte} {mk : Word → Instr} (he : ∀ w, encode (mk w) = [op, hiByte w, loByte w])
    (hw : ∀ quirk w, (mk w).wfWith quirk = true) : RowEncodes op (.word mk) := by
  rintro _ _ ⟨⟩
  exact ⟨he _, fun quirk => iff_of_true (hw quirk _) rfl⟩

theorem rowEncodes_pair {op : Byte} {mk : Byte → Byte → Instr} (he : ∀ b1 b2, encode (mk b1 b2) = [op, b1, b2])
    (hw : ∀ quirk b1 b2, (mk b1 b2).wfWith quirk = true) : RowEncodes op (.pair mk) := by
  rintro _ _ ⟨⟩
  exact ⟨he _ _, fun quirk => iff_of_true (hw quirk _ _) rfl⟩

theorem rowsEncode_cons {op : Byte} {f : OperandForm} {l : List (Byte × OperandForm)} (h : RowEncodes op f)
    (hl : ∀ p ∈ l, RowEncodes p.1 p.2) : ∀ p ∈ (op, f) :: l, RowEncodes p.1 p.2 :=
  List.forall_mem_cons.mpr ⟨h, hl⟩

theorem rowsEncode_append {l l' : List (Byte × OperandForm)} (h : ∀ p ∈ l, RowEncodes p.1 p.2)
    (h' : ∀ p ∈ l', RowEncodes p.1 p.2) : ∀ p ∈ l ++ l', RowEncodes p.1 p.2 :=
  List.forall_mem_append.mpr ⟨h, h'⟩

theorem opcodeRows_encode : ∀ p ∈ opcodeRows, RowEncodes p.1 p.2 := by
  unfold opcodeRows
  repeat' apply rowsEncode_append
  all_goals
    repeat' apply rowsEncode_cons
    case hl => exact List.forall_mem_nil _
  all_goals first
    | exact rowEncodes_byte (fun _ => rfl) fun _ _ => rfl
    | exact rowEncodes_word (fun _ => rfl) fun _ _ => rfl
    | exact rowEncodes_quirkable (fun _ => rfl) fun _ _ => rfl
    | exact rowEncodes_fixed rfl fun _ => rfl
    | exact rowEncodes_pair (fun _ _ => rfl) fun _ _ _ => rfl

/-! ## Every instruction has its row -/

/-- Where the row of each constructor of `Instr`, in their order, stands in `opcodeRows`: the constructors are in the
order of the opcodes, and the rows of one file of the spec after those of another. -/
def rowPlaces : List Nat :=
  [(0, 21), (59, 16), (21, 38), (81, 14), (75, 1), (95, 15), (76, 1), (110, 13), (77, 1), (123, 14), (78, 1), (137, 15),
    (79, 1), (152, 15), (80, 1), (167, 62)].flatMap fun (start, n) => List.range' start n

/-- Every instruction is what some row's form makes of its operand bytes. -/
theorem instr_mem_opcodeRows (i : Instr) :
    ∃ op f ops, opcodeRows[rowPlaces.getD i.ctorIdx 0]? = some (op, f) ∧ f.Makes ops i := by
  cases i <;> exact ⟨_, _, _, rfl, by constructor⟩

theorem opcodeRows_opcodes_nodup : (opcodeRows.map Prod.fst).Nodup := by decide +kernel

/-- The search finds a row of a list in which no opcode has two. -/
theorem findRow_of_mem {op : Byte} {f : OperandForm} {l : List (Byte × OperandForm)} (hn : (l.map Prod.fst).Nodup)
    (h : (op, f) ∈ l) : findRow op l = some f := by
  induction l with
  | nil => cases h
  | cons r rest ih =>
    obtain ⟨k, g⟩ := r
    obtain ⟨hk, hrest⟩ := List.nodup_cons.mp hn
    obtain heq | hmem := List.mem_cons.mp h
    · cases heq
      exact if_pos rfl
    · have hne : k ≠ op := by
        rintro rfl
        exact hk (List.mem_map.mpr ⟨_, hmem, rfl⟩)
      rw [findRow, if_neg hne, ih hrest hmem]

/-- Every instruction has one row: the decoder finds it by the first byte of the encoding, and its form makes the
instruction of the other bytes. -/
theorem instr_row (i : Instr) :
    ∃ op f ops, findRow op opcodeRows = some f ∧ f.Makes ops i ∧ encode i = op :: ops ∧
      ∀ quirk, i.wfWith quirk = true ↔ ops.length = f.size (quirk.contains op) := by
  obtain ⟨op, f, ops, hplace, hmakes⟩ := instr_mem_opcodeRows i
  have hmem := List.mem_of_getElem? hplace
  exact ⟨op, f, ops, findRow_of_mem opcodeRows_opcodes_nodup hmem, hmakes, opcodeRows_encode _ hmem ops i hmakes⟩

/-! ## The decoder against the encoder -/

/-- The decoder answers an instruction on the bytes that begin with its encoding, where it is well-formed, and on no
others. -/
theorem decodeWith_eq_ok_iff {quirk bytes : List Byte} {i : Instr} :
    decodeWith quirk bytes = .ok i ↔ i.wfWith quirk = true ∧ ∃ rest, bytes = encode i ++ rest := by
  constructor
  · intro hd
    cases bytes with
    | nil => cases hd
    | cons op bytes =>
      obtain ⟨-, h⟩ | ⟨f, -, -, h⟩ | ⟨f, j, hf, hb, h⟩ := decodeWith_cons quirk op bytes
      · cases hd.symm.trans h
      · cases hd.symm.trans h
      · cases hd.symm.trans h
        obtain ⟨ops, rest, hmakes, hlen, rfl⟩ := OperandForm.build_eq_some_iff.mp hb
        obtain ⟨henc, hwf⟩ := opcodeRows_encode _ (findRow_mem hf) ops i hmakes
        exact ⟨(hwf quirk).mpr hlen, rest, by rw [henc, List.cons_append]⟩
  · rintro ⟨hw, rest, rfl⟩
    obtain ⟨op, f, ops, hf, hmakes, henc, hwf⟩ := instr_row i
    have hb : f.build (quirk.contains op) (ops ++ rest) = some i :=
      OperandForm.build_eq_some_iff.mpr ⟨ops, rest, hmakes, (hwf quirk).mp hw, rfl⟩
    rw [henc, List.cons_append]
    simp only [decodeWith, hf, hb]

/-- Settles O27: the bytes begin with the encoding of a well-formed instruction. -/
theorem decodeOfEncode : Obligations.DecodeOfEncode :=
  fun _ _ rest hw => decodeWith_eq_ok_iff.mpr ⟨hw, rest, rfl⟩

/-- Settles O28: the decoder answers an instruction on no other bytes. -/
theorem encodeOfDecode : Obligations.EncodeOfDecode := fun _ _ _ => decodeWith_eq_ok_iff.mp

end Sys2Proof
end

section
/-! O59: the bit string of an instruction (30_encoding.md R80).

A list of bytes is a number of as many base-256 digits, the first byte the most significant; `natToBytes` and
`bytesToNat` are inverse to each other, so an 8n-bit word is the encoding of the instruction that its n bytes are. -/

namespace Sys2Proof

/-- Byte `k` in address order of the `n` bytes of a number. -/
theorem natToBytes_getElem? {n k : Nat} (w : Nat) (hk : k < n) :
    (natToBytes n w)[k]? = some (byteOfNat (n - 1 - k) w) := by
  induction n generalizing k with
  | zero => omega
  | succ n ih =>
    cases k with
    | zero => rfl
    | succ k =>
      rw [natToBytes, List.getElem?_cons_succ, ih (by omega), show n + 1 - 1 - (k + 1) = n - 1 - k by omega]

/-- Eight bits of a word from a multiple of eight up are a byte of its number. -/
theorem extractLsb'_eq_byteOfNat {n : Nat} (w : BitVec n) (k : Nat) :
    w.extractLsb' (8 * k) 8 = byteOfNat k w.toNat := by
  apply BitVec.eq_of_toNat_eq
  rw [BitVec.extractLsb'_toNat, byteOfNat, BitVec.toNat_ofNat, Nat.shiftRight_eq_div_pow, Nat.pow_mul]

/-- Byte `k` of an instruction in address order is eight bits of its bit string. -/
theorem encodingWord_byte {i : Instr} {k : Nat} {b : Byte} (h : (encode i)[k]? = some b) :
    (encodingWord i).extractLsb' (8 * ((encode i).length - 1 - k)) 8 = b := by
  obtain ⟨hk, -⟩ := List.getElem?_eq_some_iff.mp h
  have hbyte := natToBytes_getElem? (bytesToNat (encode i)) hk
  rw [natToBytes_bytesToNat, h] at hbyte
  rw [extractLsb'_eq_byteOfNat, encodingWord_toNat, Option.some.inj hbyte]

/-- An instruction has one opcode byte and at most two operand bytes. -/
theorem encode_eq_cons (i : Instr) : ∃ op ops, encode i = op :: ops ∧ ops.length ≤ 2 := by
  obtain ⟨op, f, ops, -, hmakes, henc, -⟩ := instr_row i
  refine ⟨op, ops, henc, ?_⟩
  cases hmakes with
  | quirkable _ q => exact Nat.le_succ_of_le (quirkBytes_length_le q)
  | fixed => exact Nat.zero_le 2
  | byte => exact Nat.le_succ 1
  | word | pair => exact Nat.le_refl 2

theorem decodeEncodingWord_eq_some_iff {quirk : List Byte} {n : Nat} {w : BitVec (8 * n)} {i : Instr} :
    decodeEncodingWord quirk n w = some i ↔
      decodeWith quirk (natToBytes n w.toNat) = .ok i ∧ n = (encode i).length := by
  unfold decodeEncodingWord
  cases decodeWith quirk (natToBytes n w.toNat) with
  | error e => simp
  | ok j =>
    by_cases hn : (encode j).length = n
    · simp only [hn, if_true, Option.some.injEq, Except.ok.injEq]
      exact ⟨fun h => ⟨h, h ▸ hn.symm⟩, fun h => h.1⟩
    · simp only [hn, if_false, reduceCtorEq, Except.ok.injEq, false_iff, not_and]
      rintro rfl heq
      exact hn heq.symm

/-- The bytes of an 8n-bit word are those of an instruction of that length where the word is its bit string. -/
theorem natToBytes_eq_encode_iff {i : Instr} {w : Nat} (hw : w < 256 ^ (encode i).length) :
    natToBytes (encode i).length w = encode i ↔ w = (encodingWord i).toNat := by
  rw [encodingWord_toNat]
  constructor
  · intro h
    rw [← bytesToNat_natToBytes _ w hw, h]
  · rintro rfl
    exact natToBytes_bytesToNat (encode i)

/-- On the window port the bytes of a list stand in the most significant bits (10_state.md R31). -/
theorem winOf_cons_toNat (op : Byte) {ops : List Byte} (h : ops.length ≤ 2) :
    (Machine.winOf (op :: ops)).toNat / 256 ^ (3 - (op :: ops).length) = bytesToNat (op :: ops) := by
  rw [Machine.winOf, Machine.toNat_packWin]
  match ops, h with
  | [], _ =>
    simp only [List.getD_cons_zero, List.getD_cons_succ, List.getD_nil, List.length_cons, List.length_nil, bytesToNat,
      BitVec.ofNat_eq_ofNat, BitVec.toNat_ofNat, Nat.zero_mod, Nat.reduceAdd, Nat.reduceSub, Nat.reducePow]
    omega
  | [b1], _ =>
    have := b1.isLt
    simp only [List.getD_cons_zero, List.getD_cons_succ, List.getD_nil, List.length_cons, List.length_nil, bytesToNat,
      BitVec.ofNat_eq_ofNat, BitVec.toNat_ofNat, Nat.zero_mod, Nat.reduceAdd, Nat.reduceSub, Nat.reducePow]
    omega
  | [b1, b2], _ =>
    simp only [List.getD_cons_zero, List.getD_cons_succ, List.length_cons, List.length_nil, bytesToNat, Nat.reduceAdd,
      Nat.reduceSub, Nat.reducePow]
    omega

/-- Settles O59: the word's bytes are the encoding, all of it and nothing after it. -/
theorem encodingWordRoundTrip : Obligations.EncodingWordRoundTrip := by
  intro i
  obtain ⟨op, ops, henc, hlen⟩ := encode_eq_cons i
  have hpos : (encode i).length = ops.length + 1 := by rw [henc, List.length_cons]
  have hhead : (encode i)[0]? = some op := by rw [henc, List.getElem?_cons_zero]
  refine ⟨by omega, by omega, ?_, fun k b => encodingWord_byte, fun quirk n w => ?_, ?_⟩
  · rw [List.head?_eq_getElem?, hhead, ← encodingWord_byte hhead]
    simp only [Nat.sub_zero, Nat.mul_sub, Nat.mul_one]
  · rw [decodeEncodingWord_eq_some_iff, decodeWith_eq_ok_iff, and_assoc]
    refine and_congr_right fun _ => ⟨?_, ?_⟩
    · rintro ⟨⟨rest, hbytes⟩, rfl⟩
      have hw : w.toNat < 256 ^ (encode i).length := by
        have := w.isLt
        rwa [Nat.pow_mul] at this
      have hrest : rest = [] := by
        have := congrArg List.length hbytes
        rw [natToBytes_length, List.length_append] at this
        exact List.eq_nil_of_length_eq_zero (by omega)
      rw [hrest, List.append_nil] at hbytes
      exact ⟨rfl, (natToBytes_eq_encode_iff hw).mp hbytes⟩
    · rintro ⟨rfl, hw⟩
      refine ⟨⟨[], ?_⟩, rfl⟩
      rw [hw, encodingWord_toNat, natToBytes_bytesToNat, List.append_nil]
  · rw [encodingWord_toNat, henc]
    exact winOf_cons_toNat op hlen

end Sys2Proof
end

section
/-! O18, O24, O26, O29: what every step establishes (10_state.md R30, R41; 70_reset_and_hazards.md R800). -/

namespace Sys2Proof.Machine

/-- The record of a row at the operand value that its shape assembles fits its slot and itself. -/
theorem okCoherent_okRecord {op : Byte} {e : RomEntry} (hl : romLookup configuredRom op = some e)
    (b1 b2 : Byte) (addr : Word) :
    OkCoherent addr (okRecord op e.mnem e.shape (operandValue e.shape b1 b2) addr) where
  row := ⟨e.mnem, rfl, hl, rfl⟩
  oplen := toNat_ofNat_shape_len e.shape
  ilen := by rw [okRecord_ilen, okRecord_oplen, toNat_ofNat_succ_shape_len, toNat_ofNat_shape_len]
  valid := by
    rw [okRecord_opvalValid, okRecord_oplen, decide_eq_true_eq, Ne, Ne, not_iff_not]
    exact ⟨fun h => by rw [h]; rfl, fun h => by rw [← toNat_ofNat_shape_len, h]; rfl⟩
  absent := fun h => by
    rw [okRecord_opvalValid, decide_eq_false_iff_not, not_not] at h
    exact operandValue_of_len_zero h b1 b2
  narrow := fun h => by
    rw [okRecord_fhi, operandValue_of_len_one (shape_len_of_ofNat_eq_one h), hiByte_zext16]
  split := (wordOf_hiByte_loByte _).symm
  next := toNat_fallTarget addr _
  edges := by
    rw [okRecord_cat, okRecord_e0, okRecord_e1, okRecord_nextAddr]
    cases category e.mnem <;> exact ⟨rfl, rfl⟩
  tokens := fun h => by
    rw [okRecord_opvalValid, decide_eq_false_iff_not, not_not] at h
    exact if_pos h
  nop := rfl

/-- What the output ports show is well-formed at every instant. -/
theorem outputsCoherent_drive_outputs (s : State) : OutputsCoherent (s.drive s.outputs) := by
  unfold OutputsCoherent
  rw [State.drive_out, State.drive_addr]
  obtain ⟨-, ho⟩ | ⟨-, hl, ho⟩ | ⟨_, -, -, -, ho⟩ | ⟨e, hl, -, ho⟩ :=
    blockDecode_cases configuredRom s.addr s.win s.avail
  · rw [State.outputs, ho]; trivial
  · rw [State.outputs, ho]; exact ⟨hl, rfl⟩
  · rw [State.outputs, ho]; trivial
  · rw [State.outputs, ho]; exact okCoherent_okRecord hl _ _ _

/-- Settles O26: row by row, the decoded instruction drives the slot's outputs. -/
theorem stepRefinesBlockDecode : Obligations.StepRefinesBlockDecode :=
  fun _ hq s => stepWith_eq_drive_blockDecode hq s

/-- Settles O29: a step puts into the last answer what the output ports show, and changes no input port. -/
theorem stepEstablishesInvariant : Obligations.StepEstablishesInvariant := by
  intro s hs t hst
  rw [step_eq_drive_outputs] at hst
  cases hst
  exact ⟨hs, State.drive_outputs s _, outputsCoherent_drive_outputs s⟩

/-- Settles O24: a step drives `SHORT`, `UNDEFINED` or one row, and each changes the last answer only. -/
theorem stepOnlyDrivesOutputs : Obligations.StepOnlyDrivesOutputs := stepWith_next

/-- Settles O18: with no byte presented the output ports show `SHORT`, and every bound holds of 0 bytes. -/
theorem resetPorts : Obligations.ResetPorts :=
  ⟨rfl, rfl, rfl, State.reset_outputs.symm, trivial, Nat.zero_le _⟩

end Sys2Proof.Machine
end

section
/-! O30, O31, O32: which outcome a step has (60_exceptions.md R705). -/

namespace Sys2Proof.Machine

/-- The status of a block's decode, in the order of R705. -/
theorem blockDecode_status (rom : RomTable) (addr : Word) (win : BitVec 24) (avail : BitVec 2) :
    (blockDecode rom addr win avail).status =
      if avail = 0 then .short
      else
        match romLookup rom (winB0 win) with
        | none => .undefined
        | some e => if avail.toNat < 1 + e.shape.len then .short else .ok := by
  by_cases h0 : avail = 0
  · rw [blockDecode_of_avail_zero (by rw [h0]; rfl), if_pos h0, Outputs.status_short]
  · have h0' : avail.toNat ≠ 0 := fun h => h0 (BitVec.eq_of_toNat_eq h)
    rw [if_neg h0]
    cases hl : romLookup rom (winB0 win) with
    | none => rw [blockDecode_of_absent h0' hl, Outputs.status_undefined]
    | some e =>
      rw [blockDecode_of_present h0' hl, apply_ite Outputs.status, Outputs.status_short, Outputs.status_ok]

/-- The opcodes without a slot in the configured table are the 27 of 30_encoding.md R98. -/
theorem romLookup_configuredRom_eq_none_iff (op : Byte) :
    romLookup configuredRom op = none ↔ op ∈ Expect.absentOpcodes := by
  revert op
  decide +kernel

/-- Settles O30: an absent opcode has no slot, whatever follows it. -/
theorem absentOpcodesAreUndefined : Obligations.AbsentOpcodesAreUndefined := by
  intro s h1 hop
  have hl := (romLookup_configuredRom_eq_none_iff _).mpr hop
  rw [step_eq_drive_outputs, State.outputs, blockDecode_of_absent (Nat.one_le_iff_ne_zero.mp h1) hl]
  rfl

/-- Settles O32: a step's status is that of the block's decode. -/
theorem outcomePriority : Obligations.OutcomePriority :=
  fun s => ⟨_, step_eq_drive_outputs s, blockDecode_status configuredRom s.addr s.win s.avail⟩

/-- Settles O31: three bytes are enough for every shape, so only the table decides. -/
theorem wholeWindowNeverShort : Obligations.WholeWindowNeverShort := by
  intro s h3
  refine ⟨_, step_eq_drive_outputs s, ?_⟩
  have h0 : s.avail.toNat ≠ 0 := by omega
  rw [State.drive_out, State.outputs]
  cases hl : romLookup configuredRom (winB0 s.win) with
  | none =>
    rw [blockDecode_of_absent h0 hl, if_pos ((romLookup_configuredRom_eq_none_iff _).mp hl), Outputs.status_undefined]
  | some e =>
    have hop : winB0 s.win ∉ Expect.absentOpcodes := fun hmem => by
      rw [(romLookup_configuredRom_eq_none_iff _).mpr hmem] at hl
      cases hl
    have hlen := shape_len_le e.shape
    rw [blockDecode_of_present h0 hl, if_neg (by omega), if_neg hop, Outputs.status_ok]

end Sys2Proof.Machine
end

section
/-! O19, O20, O22, O23: the decoded instruction's meaning (30_encoding.md R80, R88; 60_exceptions.md R703). -/

namespace Sys2Proof.Machine

/-- The operand bytes of a shape in address order, read back from the operand value. -/
def operandBytes (S : Shape) (v : Word) : List Byte :=
  match S.len with
  | 0 => []
  | 1 => [loByte v]
  | _ => [hiByte v, loByte v]

theorem operandBytes_of_len_one {S : Shape} (h : S.len = 1) (v : Word) : operandBytes S v = [loByte v] := by
  simp only [operandBytes, h]

theorem operandBytes_of_len_two {S : Shape} (h : S.len = 2) (v : Word) :
    operandBytes S v = [hiByte v, loByte v] := by
  simp only [operandBytes, h]

theorem operandBytes_length (S : Shape) (v : Word) : (operandBytes S v).length = S.len := by
  cases S <;> rfl

/-- What a row's form makes of its operand bytes drives that row, at the operand value that shows them. -/
theorem RowMeaning.makes_drives {op : Byte} {f : OperandForm} {e : Option RomEntry} {ops : List Byte} {i : Instr}
    (hr : RowMeaning op (some f) e) (hm : f.Makes ops i) :
    ∃ m S v, ops = operandBytes S v ∧ ∀ s, exec i s = driveRow op m S v s := by
  cases hr with
  | fixed i m _ h => cases hm; exact ⟨m, .none, 0, rfl, h⟩
  | quirkable mk m h =>
    cases hm with
    | quirkable _ q =>
      cases q with
      | none => exact ⟨m, .none, 0, rfl, h none⟩
      | some b => exact ⟨m, .byteAddress, zext16 b, by simp [operandBytes, Shape.len, quirkBytes], h (some b)⟩
  | byte mk m S _ hS h =>
    cases hm with
    | byte _ b => exact ⟨m, S, zext16 b, by rw [operandBytes_of_len_one hS, loByte_zext16], h b⟩
  | word mk m S _ hS h =>
    cases hm with
    | word _ w => exact ⟨m, S, w, (operandBytes_of_len_two hS w).symm, h w⟩
  | pair mk m S _ hS h =>
    cases hm with
    | pair _ b1 b2 =>
      exact ⟨m, S, wordOf b1 b2, by rw [operandBytes_of_len_two hS, hiByte_wordOf, loByte_wordOf], h b1 b2⟩

/-- Every instruction drives one row, whose opcode and operand bytes are its encoding. -/
theorem exec_eq_driveRow_encode (i : Instr) :
    ∃ op m S v, encode i = op :: operandBytes S v ∧ ∀ s, exec i s = driveRow op m S v s := by
  obtain ⟨op, f, ops, hf, hmakes, henc, -⟩ := instr_row i
  obtain ⟨m, S, v, rfl, h⟩ := (hf ▸ rowMeaning op).makes_drives hmakes
  exact ⟨op, m, S, v, henc, h⟩

/-- Settles O22: the row that the instruction drives needs as many bytes as the encoding has. -/
theorem shortWindowDrivesShort : Obligations.ShortWindowDrivesShort := by
  intro i s hs
  obtain ⟨op, m, S, v, henc, h⟩ := exec_eq_driveRow_encode i
  rw [henc, List.length_cons, operandBytes_length] at hs
  exact (h s).trans (driveRow_short (by omega))

/-- The lengths and fields of a row's record show its opcode and operand bytes. -/
theorem okRecord_shows_bytes (op : Byte) (m : Mnemonic) (S : Shape) (v addr : Word) {r : DecodeRecord}
    (hr : r = okRecord op m S v addr) :
    op :: operandBytes S v =
      r.opcode :: (if r.oplen = 0 then [] else if r.oplen = 1 then [r.flo] else [r.fhi, r.flo]) := by
  rw [hr]
  cases S <;> rfl

/-- Settles O23: with all the bytes of the encoding valid, the instruction drives its row's record. -/
theorem execShowsEveryByte : Obligations.ExecShowsEveryByte := by
  intro i s hs
  obtain ⟨op, m, S, v, henc, h⟩ := exec_eq_driveRow_encode i
  rw [henc, List.length_cons, operandBytes_length] at hs ⊢
  refine ⟨_, (h s).trans (driveRow_ok (by omega)), ?_, okRecord_shows_bytes op m S v s.addr rfl⟩
  rw [okRecord_ilen, toNat_ofNat_succ_shape_len, Nat.add_comm]

theorem stepWith_of_decodeWith {quirk : List Byte} {s : State} {i : Instr} (hd : decodeWith quirk s.bytes = .ok i) :
    stepWith quirk s = exec i s := by
  simp only [stepWith, hd]

/-- Settles O19: a step is the meaning of the instruction that the decoder answers. -/
theorem stepRunsDecodedInstruction : Obligations.StepRunsDecodedInstruction :=
  ⟨fun _ _ _ hd _ => stepWith_of_decodeWith hd, fun _ _ hd _ => stepWith_of_decodeWith hd⟩

/-- An absent opcode gives no instruction, whatever follows it. -/
theorem decodeWith_cons_ne_ok_of_absent {quirk rest : List Byte} {op : Byte} {i : Instr}
    (hf : findRow op opcodeRows = none) : decodeWith quirk (op :: rest) ≠ .ok i := by
  intro h
  simp only [decodeWith, hf, reduceCtorEq] at h

/-- A window whose three bytes decode to an instruction, but whose valid ones are fewer than it has, is short. -/
theorem decodeWith_take_of_lt {quirk bytes : List Byte} {i : Instr} {n : Nat} (hd : decodeWith quirk bytes = .ok i)
    (hn : n < (encode i).length) : decodeWith quirk (bytes.take n) = .error .short := by
  cases hb : bytes.take n with
  | nil => rfl
  | cons op rest =>
    have hbytes : bytes = op :: rest ++ bytes.drop n := by rw [← hb, List.take_append_drop]
    obtain ⟨hf, -⟩ | ⟨f, -, -, h⟩ | ⟨f, j, -, -, h⟩ := decodeWith_cons quirk op rest
    · rw [hbytes] at hd
      exact absurd hd (decodeWith_cons_ne_ok_of_absent hf)
    · exact h
    · obtain ⟨hw, t, ht⟩ := decodeWith_eq_ok_iff.mp h
      have hj : decodeWith quirk bytes = .ok j := by
        refine decodeWith_eq_ok_iff.mpr ⟨hw, t ++ bytes.drop n, ?_⟩
        rw [← List.append_assoc, ← ht, ← hbytes]
      cases hd.symm.trans hj
      have hlen := congrArg List.length (hb.trans ht)
      rw [List.length_append, List.length_take] at hlen
      omega

/-- Where the three bytes of the window decode to an instruction, a step is its meaning, however many are valid. -/
theorem stepWith_of_decodeWith_window {quirk : List Byte} {s : State} {i : Instr}
    (hd : decodeWith quirk [winB0 s.win, winB1 s.win, winB2 s.win] = .ok i) : stepWith quirk s = exec i s := by
  by_cases hs : s.avail.toNat < (encode i).length
  · have hshort : decodeWith quirk s.bytes = .error .short := decodeWith_take_of_lt hd hs
    rw [shortWindowDrivesShort i s hs]
    simp only [stepWith, hshort, driveShort_eq]
    rfl
  · obtain ⟨hw, rest, hrest⟩ := decodeWith_eq_ok_iff.mp hd
    refine stepWith_of_decodeWith (decodeWith_eq_ok_iff.mpr ⟨hw, rest.take (s.avail.toNat - (encode i).length), ?_⟩)
    rw [State.bytes, validBytes, hrest, List.take_append, List.take_of_length_le (Nat.le_of_not_lt hs)]

/-- The window that presents a word of the table's numbering has its bytes. -/
theorem withFetchWord_window (s : State) (nbits w : Nat) :
    [winB0 (s.withFetchWord nbits w).win, winB1 (s.withFetchWord nbits w).win, winB2 (s.withFetchWord nbits w).win] =
      tableWordBytes nbits w := by
  rw [State.withFetchWord_win, winOf, winB0_packWin, winB1_packWin, winB2_packWin]
  rfl

theorem decode_of_decodeTableWord {nbits w : Nat} {i : Instr} (h : decodeTableWord nbits w = some i) :
    decode (tableWordBytes nbits w) = .ok i := by
  unfold decodeTableWord at h
  cases hd : decode (tableWordBytes nbits w) with
  | ok j =>
    simp only [hd, Option.some.injEq] at h
    rw [h]
  | error e => simp only [hd, reduceCtorEq] at h

/-- Settles O20: the presented window has the word's bytes, as many of them valid as the space has from `addr` on. -/
theorem presentedWordRuns : Obligations.PresentedWordRuns := by
  intro s nbits w
  refine ⟨?_, fun ha => ?_, fun i hi => ?_⟩
  · rw [WindowInSpace, State.withFetchWord_avail, State.withFetchWord_addr, toNat_windowLimit]
  · rw [WindowWhole, State.withFetchWord_avail, toNat_windowLimit, windowLimit]
    omega
  · refine stepWith_of_decodeWith_window ?_
    rw [withFetchWord_window]
    exact decode_of_decodeTableWord hi

end Sys2Proof.Machine
end

section
/-! O1 to O17: the outputs of every row of the default table (files 40 to 43 of the spec).

A row drives the record of its opcode, mnemonic and shape.  By the length of the shape that record is one of the three
forms of `Expect`, with the edges of the mnemonic's category and the tokens of the shape; row by row there is left what
instruction, opcode, mnemonic, shape and category belong together (`RowsDrive`). -/

namespace Sys2Proof.Machine

open Sys2Proof.Expect

/-! ## The three forms of a row's outputs, by the length of its shape -/

theorem driveRow_inherent {op : Byte} {m : Mnemonic} {s : State} (hc : category m = .none) (hs : 1 ≤ s.avail.toNat) :
    driveRow op m .none 0 s = .next { s with out := inherent op m s.addr } := by
  rw [driveRow_ok (show 1 + Shape.none.len ≤ s.avail.toNat from hs), okRecord, hc]
  rfl

theorem driveRow_oneByte {op : Byte} {m : Mnemonic} {S : Shape} {c : Category} {b : Byte} {s : State} (hS : S.len = 1)
    (hc : category m = c) (hs : 2 ≤ s.avail.toNat) :
    driveRow op m S (zext16 b) s =
      .next { s with
        out := oneByte op m S b c (firstEdge c s.addr (zext16 b)) (secondEdge c s.addr 2) (render S (zext16 b))
          s.addr } := by
  rw [driveRow_ok (by omega), okRecord, hS, hc, hiByte_zext16, loByte_zext16, operandTokens_eq_render]
  rfl

theorem driveRow_twoBytes {op : Byte} {m : Mnemonic} {S : Shape} {c : Category} {v : Word} {s : State} (hS : S.len = 2)
    (hc : category m = c) (hne : c ≠ .cond) (hs : 3 ≤ s.avail.toNat) :
    driveRow op m S v s =
      .next { s with
        out := twoBytes op m S v (hiByte v) (loByte v) c (firstEdge c s.addr v) (render S v) s.addr } := by
  have he : secondEdge c s.addr 3 = none := by
    cases c with
    | cond => exact absurd rfl hne
    | none | call | jump => rfl
  rw [driveRow_ok (by omega), okRecord, hS, hc, operandTokens_eq_render, twoBytes, ← he]
  rfl

/-! ## The rows of a list -/

/-- Every row of a list drives its opcode and mnemonic at one shape and operand value, and has one category. -/
def RowsDrive {α ι : Type} (mk : α → ι → Instr) (S : Shape) (value : ι → Word) (c : Category)
    (l : List (α × Byte × Mnemonic)) : Prop :=
  ∀ p ∈ l, category p.2.2 = c ∧ ∀ x s, exec (mk p.1 x) s = driveRow p.2.1 p.2.2 S (value x) s

section RowsDrive

variable {α ι : Type} {mk : α → ι → Instr} {S : Shape} {value : ι → Word} {c : Category}

theorem rowsDrive_nil : RowsDrive mk S value c [] := List.forall_mem_nil _

theorem rowsDrive_cons {g : α} {op : Byte} {m : Mnemonic} {l : List (α × Byte × Mnemonic)} (hc : category m = c)
    (h : ∀ x s, exec (mk g x) s = driveRow op m S (value x) s) (hl : RowsDrive mk S value c l) :
    RowsDrive mk S value c ((g, op, m) :: l) :=
  List.forall_mem_cons.mpr ⟨⟨hc, h⟩, hl⟩

end RowsDrive

/-- The rows without operand. -/
theorem RowsDrive.inherent {α ι : Type} {mk : α → ι → Instr} {l : List (α × Byte × Mnemonic)} {x : ι} {s : State}
    (hl : RowsDrive mk .none (fun _ => 0) .none l) (hs : 1 ≤ s.avail.toNat) :
    ∀ p ∈ l, exec (mk p.1 x) s = .next { s with out := Expect.inherent p.2.1 p.2.2 s.addr } := by
  intro p hp
  obtain ⟨hc, h⟩ := hl p hp
  rw [h, driveRow_inherent hc hs]

/-- The rows with one operand byte. -/
theorem RowsDrive.oneByte {α : Type} {mk : α → Byte → Instr} {S : Shape} {c : Category} {l : List (α × Byte × Mnemonic)}
    {b : Byte} {s : State} (hl : RowsDrive mk S zext16 c l) (hS : S.len = 1) (hs : 2 ≤ s.avail.toNat) :
    ∀ p ∈ l, exec (mk p.1 b) s =
      .next { s with
        out := Expect.oneByte p.2.1 p.2.2 S b c (firstEdge c s.addr (zext16 b)) (secondEdge c s.addr 2)
          (render S (zext16 b)) s.addr } := by
  intro p hp
  obtain ⟨hc, h⟩ := hl p hp
  rw [h, driveRow_oneByte hS hc hs]

/-- The rows with two operand bytes, none of them a relative branch. -/
theorem RowsDrive.twoBytes {α ι : Type} {mk : α → ι → Instr} {S : Shape} {value : ι → Word} {c : Category}
    {l : List (α × Byte × Mnemonic)} {x : ι} {s : State} (hl : RowsDrive mk S value c l) (hS : S.len = 2)
    (hne : c ≠ .cond) (hs : 3 ≤ s.avail.toNat) :
    ∀ p ∈ l, exec (mk p.1 x) s =
      .next { s with
        out := Expect.twoBytes p.2.1 p.2.2 S (value x) (hiByte (value x)) (loByte (value x)) c
          (firstEdge c s.addr (value x)) (render S (value x)) s.addr } := by
  intro p hp
  obtain ⟨hc, h⟩ := hl p hp
  rw [h, driveRow_twoBytes hS hc hne hs]

/-! ## The lists -/

theorem plainRows_drive : RowsDrive (fun i (_ : Unit) => i) .none (fun _ => 0) .none plainRows := by
  repeat refine rowsDrive_cons rfl (fun _ _ => rfl) ?_
  exact rowsDrive_nil

theorem quirkableRows_drive : RowsDrive (fun mk (_ : Unit) => mk none) .none (fun _ => 0) .none quirkableRows := by
  repeat refine rowsDrive_cons rfl (fun _ _ => rfl) ?_
  exact rowsDrive_nil

theorem quirkableRows_drive_byteAddress :
    RowsDrive (fun mk b => mk (some b)) .byteAddress zext16 .none quirkableRows := by
  repeat refine rowsDrive_cons rfl (fun _ _ => rfl) ?_
  exact rowsDrive_nil

theorem quirkRows_drive : RowsDrive (fun mk b => mk b) .byteAddress zext16 .none quirkRows := by
  repeat refine rowsDrive_cons rfl (fun _ _ => rfl) ?_
  exact rowsDrive_nil

theorem branchRows_drive : RowsDrive (fun mk b => mk b) .byteAddress zext16 .cond branchRows := by
  repeat refine rowsDrive_cons rfl (fun _ _ => rfl) ?_
  exact rowsDrive_nil

theorem rmwIndexedRows_drive : RowsDrive (fun mk b => mk b) .indexed zext16 .none rmwIndexedRows := by
  repeat refine rowsDrive_cons rfl (fun _ _ => rfl) ?_
  exact rowsDrive_nil

theorem rmwExtendedRows_drive : RowsDrive (fun mk w => mk w) .wordAddress id .none rmwExtendedRows := by
  repeat refine rowsDrive_cons rfl (fun _ _ => rfl) ?_
  exact rowsDrive_nil

theorem bitIndexedRows_drive :
    RowsDrive (fun mk (b : Byte × Byte) => mk b.1 b.2) .immediateIndexed (fun b => wordOf b.1 b.2) .none
      bitIndexedRows := by
  repeat refine rowsDrive_cons rfl (fun _ _ => rfl) ?_
  exact rowsDrive_nil

theorem bitDirectRows_drive :
    RowsDrive (fun mk (b : Byte × Byte) => mk b.1 b.2) .directMemory (fun b => wordOf b.1 b.2) .none
      bitDirectRows := by
  repeat refine rowsDrive_cons rfl (fun _ _ => rfl) ?_
  exact rowsDrive_nil

theorem byteImmediateRows_drive : RowsDrive (fun mk b => mk b) .byteImmediate zext16 .none byteImmediateRows := by
  repeat refine rowsDrive_cons rfl (fun _ _ => rfl) ?_
  exact rowsDrive_nil

theorem wordImmediateRows_drive : RowsDrive (fun mk w => mk w) .wordImmediate id .none wordImmediateRows := by
  repeat refine rowsDrive_cons rfl (fun _ _ => rfl) ?_
  exact rowsDrive_nil

theorem directRows_drive : RowsDrive (fun mk b => mk b) .byteAddress zext16 .none directRows := by
  repeat refine rowsDrive_cons rfl (fun _ _ => rfl) ?_
  exact rowsDrive_nil

theorem indexedRows_drive : RowsDrive (fun mk b => mk b) .indexed zext16 .none indexedRows := by
  repeat refine rowsDrive_cons rfl (fun _ _ => rfl) ?_
  exact rowsDrive_nil

theorem extendedRows_drive : RowsDrive (fun mk w => mk w) .wordAddress id .none extendedRows := by
  repeat refine rowsDrive_cons rfl (fun _ _ => rfl) ?_
  exact rowsDrive_nil

/-! ## The statements -/

/-- Settles O1: rows of shape `None`. -/
theorem plainRowsComplete : Obligations.PlainRowsComplete :=
  fun _ hs => plainRows_drive.inherent (x := ()) hs

/-- Settles O2: the one-byte form is of shape `None`. -/
theorem quirkableRowsComplete : Obligations.QuirkableRowsComplete :=
  fun _ hs => quirkableRows_drive.inherent (x := ()) hs

/-- Settles O3: the two-byte form is of shape `ByteAddress`, in the mnemonic's category. -/
theorem quirkExtraRowsComplete : Obligations.QuirkExtraRowsComplete :=
  fun _ _ hs => quirkableRows_drive_byteAddress.oneByte rfl hs

/-- Settles O4: `ByteAddress` rows outside the branch set. -/
theorem quirkRowsComplete : Obligations.QuirkRowsComplete := fun _ _ hs => quirkRows_drive.oneByte rfl hs

/-- Settles O5: `ByteAddress` rows of category COND, whose taken edge adds the sign-extended operand byte. -/
theorem branchRowsComplete : Obligations.BranchRowsComplete := by
  intro s b hs p hp
  have h := branchRows_drive.oneByte (b := b) rfl hs p hp
  rw [firstEdge_cond, takenTarget, loByte_zext16] at h
  exact h

/-- Settles O6: `bsr` is outside the branch set. -/
theorem bsrCompletes : Obligations.BsrCompletes := fun _ _ hs => driveRow_oneByte rfl rfl hs

/-- Settles O7: the one edge of category JUMP carries the operand value. -/
theorem jmpRowsComplete : Obligations.JmpRowsComplete :=
  ⟨fun _ _ hs => driveRow_oneByte rfl rfl hs, fun _ _ hs => driveRow_twoBytes rfl rfl (by decide) hs⟩

/-- Settles O8: the one edge of category CALL carries the operand value. -/
theorem jsrRowsComplete : Obligations.JsrRowsComplete :=
  ⟨fun _ _ hs => driveRow_oneByte rfl rfl hs, fun _ _ hs => driveRow_oneByte rfl rfl hs,
    fun _ _ hs => driveRow_twoBytes rfl rfl (by decide) hs⟩

/-- Settles O9: `Indexed` rows. -/
theorem rmwIndexedRowsComplete : Obligations.RmwIndexedRowsComplete :=
  fun _ _ hs => rmwIndexedRows_drive.oneByte rfl hs

/-- Settles O10: `WordAddress` rows. -/
theorem rmwExtendedRowsComplete : Obligations.RmwExtendedRowsComplete :=
  fun _ _ hs => rmwExtendedRows_drive.twoBytes rfl (by decide) hs

/-- The big-endian value of two bytes, by its arithmetic. -/
theorem ofNat_eq_wordOf (hi lo : Byte) : BitVec.ofNat 16 (256 * hi.toNat + lo.toNat) = wordOf hi lo := by
  rw [← toNat_wordOf, BitVec.ofNat_toNat, BitVec.setWidth_eq]

/-- Settles O11: `ImmediateIndexed` rows, whose two fields are the two operand bytes. -/
theorem bitImmediateIndexedRowsComplete : Obligations.BitImmediateIndexedRowsComplete := by
  intro s hi lo hs p hp
  have h := bitIndexedRows_drive.twoBytes (x := (hi, lo)) rfl (by decide) hs p hp
  simp only [render, hiByte_wordOf, loByte_wordOf] at h
  rw [ofNat_eq_wordOf]
  exact h

/-- Settles O12: `DirectMemory` rows, whose two fields are the two operand bytes. -/
theorem bitImmediateDirectRowsComplete : Obligations.BitImmediateDirectRowsComplete := by
  intro s hi lo hs p hp
  have h := bitDirectRows_drive.twoBytes (x := (hi, lo)) rfl (by decide) hs p hp
  simp only [render, hiByte_wordOf, loByte_wordOf] at h
  rw [ofNat_eq_wordOf]
  exact h

/-- Settles O13: `ByteImmediate` rows. -/
theorem accumulatorImmediateRowsComplete : Obligations.AccumulatorImmediateRowsComplete :=
  fun _ _ hs => byteImmediateRows_drive.oneByte rfl hs

/-- Settles O14: `WordImmediate` rows. -/
theorem wordImmediateRowsComplete : Obligations.WordImmediateRowsComplete :=
  fun _ _ hs => wordImmediateRows_drive.twoBytes rfl (by decide) hs

/-- Settles O15: `ByteAddress` rows outside the branch set. -/
theorem directRowsComplete : Obligations.DirectRowsComplete := fun _ _ hs => directRows_drive.oneByte rfl hs

/-- Settles O16: `Indexed` rows. -/
theorem indexedRowsComplete : Obligations.IndexedRowsComplete := fun _ _ hs => indexedRows_drive.oneByte rfl hs

/-- Settles O17: `WordAddress` rows. -/
theorem extendedRowsComplete : Obligations.ExtendedRowsComplete :=
  fun _ _ hs => extendedRows_drive.twoBytes rfl (by decide) hs

end Sys2Proof.Machine
end

section
/-! O36: the mnemonic decides the category, and the category the edges (41_control_transfer.md R300, R302). -/

namespace Sys2Proof.Machine

open Sys2Proof.Expect

/-- The four categories, by the mnemonics of each (41_control_transfer.md R300). -/
theorem category_cases (m : Mnemonic) :
    (m ∈ branchMnemonics ∧ category m = .cond) ∨ (m = .jsr ∧ category m = .call) ∨ (m = .jmp ∧ category m = .jump) ∨
      (m ∉ branchMnemonics ∧ m ≠ .jsr ∧ m ≠ .jmp ∧ category m = .none) := by
  cases m <;> decide

/-- Settles O36: a step with status OK drives the record of a row, which takes its edges from the category of the
mnemonic. -/
theorem categoryDecidesEdges : Obligations.CategoryDecidesEdges := by
  intro s t r hst hr
  obtain ⟨h0, h1, -⟩ := step_ports hst (by rw [hr, Outputs.record_ok])
  obtain ⟨e, -, -, rfl⟩ := step_ok_cases hst hr
  refine ⟨e.mnem, rfl, ?_⟩
  rw [h0, h1, okRecord_cat]
  obtain ⟨hm, hc⟩ | ⟨hm, hc⟩ | ⟨hm, hc⟩ | ⟨hm, hjsr, hjmp, hc⟩ := category_cases e.mnem
  · rw [hc]; exact .inl ⟨hm, rfl, rfl, rfl⟩
  · rw [hc]; exact .inr (.inl ⟨hm, rfl, rfl, rfl⟩)
  · rw [hc]; exact .inr (.inr (.inl ⟨hm, rfl, rfl, rfl⟩))
  · rw [hc]; exact .inr (.inr (.inr ⟨hm, hjsr, hjmp, rfl, rfl, rfl⟩))

end Sys2Proof.Machine
end

section
/-! O48, O49, O50: the queries and the text of a listing (30_encoding.md R104 to R106, 60_exceptions.md R702, R703). -/

namespace Sys2Proof.Machine

/-- Settles O48: an absent slot has length 1, and on `SHORT` no query has a record to answer from. -/
theorem queriesOnUndefinedAndShort : Obligations.QueriesOnUndefinedAndShort := by
  refine ⟨fun s t r hst hr => ?_, fun s t _ hr => ?_⟩
  · obtain ⟨-, rfl⟩ := step_undefined_cases hst hr
    rw [hr, liftQuery, undefinedRecord_ilen]
    rfl
  · rw [hr]
    exact ⟨rfl, rfl, rfl⟩

/-- The digit of a number below 16 stands at its place in the sixteen lowercase digits. -/
theorem hexDigit_eq_getD {n : Nat} (h : n < 16) : hexDigit n = "0123456789abcdef".toList.getD n ' ' := by
  have key : ∀ k : Fin 16, hexDigit k = "0123456789abcdef".toList.getD k ' ' := by decide
  exact key ⟨n, h⟩

/-- Settles O49: each digit is a quotient of the value below 16, and the low byte has the value's last two. -/
theorem hexDigitsOfTokens : Obligations.HexDigitsOfTokens := by
  intro v
  have hv := v.isLt
  have hhi : (loByte v).toNat / 16 = v.toNat / 16 % 16 := by rw [toNat_loByte]; omega
  have hlo : (loByte v).toNat % 16 = v.toNat % 16 := by rw [toNat_loByte]; omega
  have hmod : ∀ n, n % 16 < 16 := fun n => Nat.mod_lt n (by omega)
  rw [hex2, hex4, hhi, hlo, hexDigit_eq_getD (hmod _),
    hexDigit_eq_getD (hmod _), hexDigit_eq_getD (hmod _), hexDigit_eq_getD (by omega)]
  exact ⟨String.toList_ofList, String.toList_ofList⟩

/-- Every mnemonic fits in the least column width (92_eei_decisions.md D12). -/
theorem mnemonic_text_length_le (m : Mnemonic) : m.text.length ≤ 4 := by
  cases m <;> decide

/-- The opcode text is the mnemonic's, then spaces only, and it fills its column and one place more. -/
theorem opToken_eq_op (width : Nat) {text : String} (h : text.length ≤ width) :
    ∃ shown k, opToken width text = .op shown ∧ shown.toList = text.toList ++ List.replicate (k + 1) ' ' ∧
      shown.toList.length = width + 1 := by
  have hshown : (padRight text width ++ " ").toList =
      text.toList ++ List.replicate (width - text.length + 1) ' ' := by
    simp only [padRight, String.toList_append, String.toList_ofList, List.append_assoc, List.replicate_succ']
    rfl
  refine ⟨_, width - text.length, rfl, hshown, ?_⟩
  rw [hshown, List.length_append, List.length_replicate, String.length_toList]
  omega

/-- Settles O50: the query answers the opcode-text token at the configured width, and every mnemonic fits in that. -/
theorem listingColumnIsConstant : Obligations.ListingColumnIsConstant := by
  intro s t r hst hr
  obtain ⟨e, -, -, rfl⟩ := step_ok_cases hst hr
  have hfits : e.mnem.text.length ≤ Config.mnemWidth := Nat.le_add_right_of_le (mnemonic_text_length_le e.mnem)
  obtain ⟨shown, k, htoken, hshown, hlength⟩ := opToken_eq_op Config.mnemWidth hfits
  refine ⟨shown, e.mnem, k, ?_, rfl, hshown, hlength⟩
  rw [hr, ← htoken]
  rfl

end Sys2Proof.Machine
end

section
/-! O21, O51, O58: bytes written out from the spec, operand assembly, and the constant metadata. -/

namespace Sys2Proof.Machine

/-- Settles O21: the decoder on the written bytes. -/
theorem writtenWordsDecode : Obligations.WrittenWordsDecode := by
  unfold Obligations.WrittenWordsDecode
  decide +kernel

/-- Settles O51: a shape of length 2 assembles the big-endian word, one of length 1 extends the first byte. -/
theorem wordOperandsRoundTrip : Obligations.WordOperandsRoundTrip := by
  refine ⟨fun S v hS => ?_, fun S b1 b2 hS => ?_⟩
  · rw [operandValue_of_len_two hS, wordOf_hiByte_loByte]
  · rw [operandValue_of_len_one hS, toNat_zext16]

/-- Settles O58: the metadata record, and the length of a list of eight values. -/
theorem metadataConstants : Obligations.MetadataConstants :=
  ⟨rfl, rfl, rfl, rfl, rfl, rfl, rfl, rfl, List.length_ofFn⟩

end Sys2Proof.Machine
end

section
/-! O42 and O57: what the outputs and the pins rest on (10_state.md R30, R31, R41). -/

namespace Sys2Proof.Machine

/-! ## The bytes beyond `avail` -/

/-- A decode reads the valid bytes of the window only (10_state.md R31). -/
theorem blockDecode_congr_validBytes {rom : RomTable} {addr : Word} {w w' : BitVec 24} {a : BitVec 2}
    (h : validBytes w' a = validBytes w a) : blockDecode rom addr w' a = blockDecode rom addr w a := by
  by_cases h0 : a.toNat = 0
  · rw [blockDecode_of_avail_zero h0, blockDecode_of_avail_zero h0]
  · have hop : winB0 w' = winB0 w := by
      obtain ⟨-, hb⟩ := validBytes_take_eq (Nat.one_le_iff_ne_zero.mpr h0) (congrArg (List.take 1) h)
      exact List.head_eq_of_cons_eq hb
    cases hl : romLookup rom (winB0 w) with
    | none => rw [blockDecode_of_absent h0 hl, blockDecode_of_absent h0 (hop ▸ hl), hop]
    | some e =>
      rw [blockDecode_of_present h0 hl, blockDecode_of_present h0 (hop ▸ hl), hop]
      by_cases hv : a.toNat < 1 + e.shape.len
      · rw [if_pos hv, if_pos hv]
      · obtain ⟨-, hb⟩ := validBytes_take_eq (Nat.le_of_not_lt hv) (congrArg (List.take (1 + e.shape.len)) h)
        rw [Nat.add_comm, List.take_succ_cons, List.take_succ_cons] at hb
        rw [if_neg hv, if_neg hv, operandValue_congr (List.tail_eq_of_cons_eq hb)]

/-- Settles O42: both steps drive the block's decode of the same valid bytes. -/
theorem bytesBeyondAvailIgnored : Obligations.BytesBeyondAvailIgnored := fun s win h =>
  ⟨_, _, step_eq_drive_outputs s, step_eq_drive_outputs { s with win := win }, blockDecode_congr_validBytes h⟩

/-! ## The pins of a record -/

theorem State.pins_of_record {s : State} {r : DecodeRecord} (h : s.outputs.record? = some r) :
    s.pins = some (recordPins s.addr (s.bytes.take r.ilen.toNat) r) := by
  rw [State.pins, h, Option.map_some]

/-- The pins show a record of the outputs. -/
theorem State.record_of_pins {s : State} {p : OutputPins} (h : s.pins = some p) :
    ∃ r, s.outputs.record? = some r ∧ p = recordPins s.addr (s.bytes.take r.ilen.toNat) r := by
  obtain ⟨r, hr, hp⟩ := Option.map_eq_some_iff.mp h
  exact ⟨r, hr, hp.symm⟩

/-- Another address changes no pin of a row's record but `next_addr` and the edge targets. -/
theorem recordPins_okRecord_addr (op : Byte) (m : Mnemonic) (S : Shape) (v a a' : Word) (bytes : List Byte) :
    { recordPins a' bytes (okRecord op m S v a') with
      nextAddr := (recordPins a bytes (okRecord op m S v a)).nextAddr
      e0Target := (recordPins a bytes (okRecord op m S v a)).e0Target
      e1Target := (recordPins a bytes (okRecord op m S v a)).e1Target } = recordPins a bytes (okRecord op m S v a) := by
  simp only [recordPins, okRecord_e0, okRecord_e1]
  cases category m <;> rfl

/-- What another address changes on the pins (30_encoding.md R89). -/
theorem State.pins_addr {s : State} {a : Word} :
    { s with addr := a }.statusPin = s.statusPin ∧
      ∀ p q : OutputPins, s.pins = some p → { s with addr := a }.pins = some q →
        { q with nextAddr := p.nextAddr, e0Target := p.e0Target, e1Target := p.e1Target } = p := by
  simp only [State.statusPin, State.pins, State.outputs]
  obtain h | h | ⟨m, S, v, h⟩ := blockDecode_cases_uniform_in_addr configuredRom s.win s.avail
  · rw [h, h]
    exact ⟨rfl, fun _ _ hp => by cases hp⟩
  · rw [h, h]
    refine ⟨rfl, ?_⟩
    rintro _ _ ⟨⟩ ⟨⟩
    rfl
  · rw [h, h]
    refine ⟨rfl, ?_⟩
    rintro _ _ ⟨⟩ ⟨⟩
    exact recordPins_okRecord_addr _ _ _ _ _ _ _

/-- Settles O57: the pins are made of the outputs, `addr` and the bytes that the decode reads, and never of the last
answer. -/
theorem pinsFollowTheInputs : Obligations.PinsFollowTheInputs := by
  refine ⟨fun s s' ha hw hv => ?_, fun s win h => ?_, fun s p win avail hp h => ?_, fun s a => State.pins_addr,
    fun s t hst => ?_⟩
  · rw [State.eq_drive_of_inputs ha hw hv]
    exact ⟨State.drive_statusPin s _, State.drive_pins s _⟩
  · exact State.pins_congr (blockDecode_congr_validBytes h) rfl fun r _ => congrArg (List.take r.ilen.toNat) h
  · obtain ⟨r, hr, rfl⟩ := State.record_of_pins hp
    obtain ⟨hstatus, hpins⟩ := State.pins_congr (u := { s with win := win, avail := avail })
      (outputs_eq_of_take_ilen_eq (step_eq_drive_outputs s) hr h) rfl fun r' hr' => by
        cases hr.symm.trans hr'
        exact h
    exact ⟨hstatus, hpins.trans hp⟩
  · rw [step_eq_drive_outputs] at hst
    cases hst
    exact ⟨rfl, State.drive_statusPin s _, State.drive_pins s _⟩

end Sys2Proof.Machine
end

section
/-! O56: the codes on the pins (10_state.md R32). -/

namespace Sys2Proof.Machine

open Sys2Proof.Expect

/-- What the output ports show, by the outcome. -/
theorem State.outputs_cases (s : State) :
    s.outputs = .short ∨ s.outputs = .undefined (undefinedRecord (winB0 s.win) s.addr) ∨
      ∃ m S b1 b2, s.outputs = .ok (okRecord (winB0 s.win) m S (operandValue S b1 b2) s.addr) := by
  obtain ⟨-, h⟩ | ⟨-, -, h⟩ | ⟨_, -, -, -, h⟩ | ⟨e, -, -, h⟩ := blockDecode_cases configuredRom s.addr s.win s.avail
  · exact .inl h
  · exact .inr (.inl h)
  · exact .inl h
  · exact .inr (.inr ⟨_, _, _, _, h⟩)

/-- The length and the operand pins of a row, by its shape. -/
theorem recordPins_okRecord_operand (op : Byte) (m : Mnemonic) (S : Shape) (b1 b2 : Byte) (addr : Word)
    (bytes : List Byte) {p : OutputPins}
    (hp : p = recordPins addr bytes (okRecord op m S (operandValue S b1 b2) addr)) :
    (p.shape = 0 ↔ p.oplen = 0) ∧ p.ilen.toNat = 1 + p.oplen.toNat ∧
      (p.opvalValid = if p.oplen = 0 then 0 else 1) ∧ (p.opvalValid = 0 → p.opval = 0) := by
  subst hp
  simp only [recordPins, okRecord_shape, okRecord_oplen, okRecord_ilen, okRecord_opvalValid, okRecord_opval]
  cases S with
  | none => exact ⟨by decide, by decide, rfl, fun _ => rfl⟩
  | byteImmediate | wordImmediate | byteAddress | wordAddress | indexed | directMemory | immediateIndexed =>
    exact ⟨by decide, by decide, rfl, fun h => absurd h (show ¬(1 : BitVec 1) = 0 by decide)⟩

/-- The category and edge pins of a row, by its mnemonic. -/
theorem recordPins_okRecord_edges (op : Byte) (m : Mnemonic) (S : Shape) (v addr : Word) (bytes : List Byte)
    {p : OutputPins} (hp : p = recordPins addr bytes (okRecord op m S v addr)) :
    (m ∈ branchMnemonics → p.cat = 1 ∧ p.e0Valid = 1 ∧ p.e0Kind = 0 ∧ p.e0Target = addr + p.flo.signExtend 16 + 2 ∧
        p.e1Valid = 1 ∧ p.e1Kind = 1 ∧ p.e1Target = p.nextAddr) ∧
      (m = .jsr → p.cat = 2 ∧ p.e0Valid = 1 ∧ p.e0Kind = 2 ∧ p.e0Target = p.opval ∧ p.e1Valid = 0) ∧
      (m = .jmp → p.cat = 3 ∧ p.e0Valid = 1 ∧ p.e0Kind = 3 ∧ p.e0Target = p.opval ∧ p.e1Valid = 0) ∧
      (m ∉ branchMnemonics → m ≠ .jsr → m ≠ .jmp → p.cat = 0 ∧ p.e0Valid = 0 ∧ p.e1Valid = 0) := by
  subst hp
  simp only [recordPins, okRecord_cat, okRecord_e0, okRecord_e1]
  refine ⟨fun hm => ?_, ?_, ?_, fun hm hjsr hjmp => ?_⟩
  · have hc : category m = .cond := by
      obtain ⟨-, h⟩ | ⟨rfl, -⟩ | ⟨rfl, -⟩ | ⟨h, -⟩ := category_cases m
      · exact h
      · exact absurd hm (by decide)
      · exact absurd hm (by decide)
      · exact absurd hm h
    rw [hc]
    exact ⟨rfl, rfl, rfl, rfl, rfl, rfl, rfl⟩
  · rintro rfl
    exact ⟨rfl, rfl, rfl, rfl, rfl⟩
  · rintro rfl
    exact ⟨rfl, rfl, rfl, rfl, rfl⟩
  · have hc : category m = .none := by
      obtain ⟨h, -⟩ | ⟨h, -⟩ | ⟨h, -⟩ | ⟨-, -, -, h⟩ := category_cases m
      · exact absurd h hm
      · exact absurd h hjsr
      · exact absurd h hjmp
      · exact h
    rw [hc]
    exact ⟨rfl, rfl, rfl⟩

theorem hiByte_zero : hiByte 0 = 0 := by decide

theorem loByte_zero : loByte 0 = 0 := by decide

/-- Settles O56: the pins show nothing, the record of an absent slot, or the record of a row. -/
theorem outputPinCodes : Obligations.OutputPinCodes := by
  intro s
  obtain h | h | ⟨m, S, b1, b2, h⟩ := s.outputs_cases
  · have hpins : s.pins = none := by rw [State.pins, h]; rfl
    refine ⟨by rw [State.statusPin, h]; rfl, iff_of_true hpins (by rw [State.statusPin, h]; rfl), fun p hp => ?_⟩
    cases hpins.symm.trans hp
  · have hstatus : s.statusPin = 1 := by rw [State.statusPin, h]; rfl
    have hpins := State.pins_of_record (s := s) (by rw [h, Outputs.record_undefined])
    refine ⟨by rw [hstatus, h], iff_of_false (by rw [hpins]; exact Option.some_ne_none _) (by rw [hstatus]; decide),
      fun p hp => ?_⟩
    cases hpins.symm.trans hp
    exact ⟨⟨_, by rw [h, Outputs.record_undefined], rfl, rfl, rfl, rfl⟩, rfl, iff_of_true rfl rfl, rfl, rfl,
      fun _ => rfl, hiByte_zero.symm, loByte_zero.symm, rfl, rfl, hstatus, rfl, rfl, rfl, rfl⟩
  · have hstatus : s.statusPin = 0 := by rw [State.statusPin, h]; rfl
    have hpins := State.pins_of_record (s := s) (by rw [h, Outputs.record_ok])
    refine ⟨by rw [hstatus, h], iff_of_false (by rw [hpins]; exact Option.some_ne_none _) (by rw [hstatus]; decide),
      fun p hp => ?_⟩
    obtain rfl := Option.some.inj (hp.symm.trans hpins)
    obtain ⟨hshape, hilen, hvalid, hopval⟩ := recordPins_okRecord_operand _ m S b1 b2 s.addr _ rfl
    refine ⟨⟨_, by rw [h, Outputs.record_ok], rfl, rfl, rfl, ?_⟩, rfl, hshape, hilen, hvalid, hopval, rfl, rfl, rfl,
      rfl, hstatus, recordPins_okRecord_edges _ m S _ s.addr _ rfl⟩
    rw [okRecord_shape]
    cases S <;> rfl

end Sys2Proof.Machine
end

section
/-! O43 and O45: the window that the host presents from its memory (20_memory.md R60, R62, R63). -/

namespace Sys2Proof.Machine

/-! ## What a read of a run of bytes can give -/

/-- A read of one byte more: the byte at the address and the rest of the run, or nothing where the space ends or the
memory has no byte there. -/
theorem Memory.readBytes_succ_cases (mem : Memory) (a n : Nat) :
    (∃ b, a < addressSpace ∧ mem.read a = some b ∧ mem.readBytes a (n + 1) = b :: mem.readBytes (a + 1) n) ∨
      (¬(a < addressSpace ∧ (mem.read a).isSome = true) ∧ mem.readBytes a (n + 1) = []) := by
  by_cases ha : a < addressSpace
  · cases hr : mem.read a with
    | none => exact .inr ⟨fun h => Bool.false_ne_true h.2, by simp only [Memory.readBytes, ha, hr, if_true]⟩
    | some b => exact .inl ⟨b, ha, rfl, by simp only [Memory.readBytes, ha, hr, if_true]⟩
  · exact .inr ⟨fun h => ha h.1, by simp only [Memory.readBytes, ha, if_false]⟩

/-- A read does not wrap past the top of the space (20_memory.md R62). -/
theorem Memory.readBytes_length_le_space (mem : Memory) (a n : Nat) :
    (mem.readBytes a n).length ≤ addressSpace - a := by
  induction n generalizing a with
  | zero => exact Nat.zero_le _
  | succ n ih =>
    obtain ⟨b, ha, -, h⟩ | ⟨-, h⟩ := mem.readBytes_succ_cases a n
    · rw [h, List.length_cons]
      have := ih (a + 1)
      omega
    · rw [h]
      exact Nat.zero_le _

/-- The bytes of a read are those of memory. -/
theorem Memory.readBytes_getElem? {mem : Memory} {a n k : Nat} (hk : k < (mem.readBytes a n).length) :
    (mem.readBytes a n)[k]? = mem.read (a + k) := by
  induction n generalizing a k with
  | zero => exact absurd hk (Nat.not_lt_zero k)
  | succ n ih =>
    obtain ⟨b, -, hr, h⟩ | ⟨-, h⟩ := mem.readBytes_succ_cases a n
    · rw [h] at hk ⊢
      cases k with
      | zero => rw [List.getElem?_cons_zero, Nat.add_zero, hr]
      | succ k =>
        rw [List.getElem?_cons_succ, ih (Nat.lt_of_succ_lt_succ hk), Nat.add_assoc, Nat.add_comm 1]
    · rw [h] at hk
      exact absurd hk (Nat.not_lt_zero k)

/-- A read has the byte at an address where it asks for it and memory has every byte up to it. -/
theorem Memory.lt_readBytes_length {mem : Memory} {a n k : Nat} (hk : k < n)
    (h : ∀ j ≤ k, a + j < addressSpace ∧ (mem.read (a + j)).isSome = true) : k < (mem.readBytes a n).length := by
  induction n generalizing a k with
  | zero => exact absurd hk (Nat.not_lt_zero k)
  | succ n ih =>
    obtain ⟨b, -, -, heq⟩ | ⟨hno, -⟩ := mem.readBytes_succ_cases a n
    · rw [heq, List.length_cons]
      cases k with
      | zero => exact Nat.succ_pos _
      | succ k =>
        refine Nat.succ_lt_succ (ih (Nat.lt_of_succ_lt_succ hk) fun j hj => ?_)
        rw [Nat.add_assoc, Nat.add_comm 1]
        exact h (j + 1) (Nat.succ_le_succ hj)
    · exact absurd (h 0 (Nat.zero_le k)) hno

/-! ## The presented window -/

theorem State.toNat_present_avail (s : State) (mem : Memory) (a : Word) :
    (s.present mem a).avail.toNat = (mem.window a).length := by
  have := mem.window_length_le a
  rw [State.present_avail, BitVec.toNat_ofNat]
  omega

/-- The valid bytes of a window made of at most three bytes are those bytes. -/
theorem validBytes_winOf {l : List Byte} (h : l.length ≤ 3) : validBytes (winOf l) (BitVec.ofNat 2 l.length) = l := by
  rw [winOf]
  match l, h with
  | [], _ => rfl
  | [b0], _ => simp
  | [b0, b1], _ => simp
  | [b0, b1, b2], _ => simp

theorem State.present_bytes (s : State) (mem : Memory) (a : Word) : (s.present mem a).bytes = mem.window a :=
  validBytes_winOf (mem.window_length_le a)

/-- Each valid byte of a presented window is the byte of memory at its address. -/
theorem State.present_bytes_getElem? {s : State} {mem : Memory} {a : Word} {k : Nat}
    (hk : k < (s.present mem a).avail.toNat) : (s.present mem a).bytes[k]? = mem.read (a.toNat + k) := by
  rw [State.toNat_present_avail] at hk
  rw [State.present_bytes]
  exact Memory.readBytes_getElem? hk

/-- Settles O45: the window is a read of three bytes, which stops at the first address that has none. -/
theorem presentedWindowEndsAtTheTop : Obligations.PresentedWindowEndsAtTheTop := by
  intro s mem a
  refine ⟨?_, fun k hk => State.present_bytes_getElem? hk, fun k hk h => ?_⟩
  · rw [WindowInSpace, State.toNat_present_avail, State.present_addr]
    exact Nat.le_min.mpr ⟨mem.window_length_le a, mem.readBytes_length_le_space a.toNat 3⟩
  · rw [State.toNat_present_avail]
    exact Memory.lt_readBytes_length (Nat.lt_succ_of_le hk) h

/-! ## Operands from memory -/

/-- Memory has the valid bytes of a presented window at their addresses. -/
theorem read_of_lt_present_avail (s : State) {mem : Memory} {a : Word} {k : Nat}
    (hk : k < (s.present mem a).avail.toNat) :
    mem.read (a.toNat + k) =
      [winB0 (s.present mem a).win, winB1 (s.present mem a).win, winB2 (s.present mem a).win][k]? := by
  rw [← State.present_bytes_getElem? hk, State.bytes, validBytes, List.getElem?_take_of_lt hk]

/-- Settles O43: the row's shape assembles the valid bytes after the opcode, which are those of memory. -/
theorem bigEndianOperandsFromMemory : Obligations.BigEndianOperandsFromMemory := by
  refine ⟨rfl, fun s t mem a r hst hr => ?_⟩
  obtain ⟨h0, -, -, rfl⟩ | ⟨e, -, hv, -, rfl⟩ := step_record_cases hst hr
  · exact ⟨read_of_lt_present_avail s (k := 0) (by omega), fun h => absurd h (by rw [undefinedRecord_oplen]; decide),
      fun h => absurd h (by rw [undefinedRecord_oplen]; decide)⟩
  · refine ⟨read_of_lt_present_avail s (k := 0) (by omega), fun h1 => ?_, fun h2 => ?_⟩
    · have hS := shape_len_of_ofNat_eq_one h1
      refine ⟨_, read_of_lt_present_avail s (k := 1) (by omega), ?_⟩
      rw [okRecord_opval, operandValue_of_len_one hS, toNat_zext16]
    · have hS := shape_len_of_ofNat_eq_two h2
      refine ⟨_, _, read_of_lt_present_avail s (k := 1) (by omega), read_of_lt_present_avail s (k := 2) (by omega), ?_⟩
      rw [okRecord_opval, okRecord_fhi, okRecord_flo, operandValue_of_len_two hS, toNat_wordOf, hiByte_wordOf,
        loByte_wordOf]
      exact ⟨rfl, rfl, rfl⟩

end Sys2Proof.Machine
end

section
/-! O52, O53, O60: the checks of a table (00_scope.md R9), under `QUIRK_EXTRA` and for what an admitted table decodes. -/

namespace Sys2Proof.Machine

/-- A table that is admitted passes each check. -/
theorem romCheck_of_romOk {undef : String} {rom : RomTable} (h : romOk undef rom = true) (c : RomCheck) :
    c.holds undef rom = true := by
  refine List.all_eq_true.mp h c ?_
  cases c <;> decide

/-! ## `QUIRK_EXTRA` keeps a table admitted (30_encoding.md R94) -/

theorem quirkFrom_length (quirk : List Byte) (k : Nat) (rom : RomTable) :
    (quirkFrom quirk k rom).length = rom.length := by
  induction rom generalizing k with
  | nil => rfl
  | cons e rest ih => rw [quirkFrom, List.length_cons, List.length_cons, ih]

/-- The present entries under `QUIRK_EXTRA` are those of the table, some with the shape `ByteAddress`. -/
theorem mem_presentEntries_withQuirk {quirk : List Byte} {rom : RomTable} {e : RomEntry}
    (h : e ∈ presentEntries (withQuirk quirk rom)) :
    ∃ e0 ∈ presentEntries rom, e = e0 ∨ e = { e0 with shape := .byteAddress } := by
  obtain ⟨x, hx, rfl⟩ := List.mem_filterMap.mp h
  obtain ⟨j, hj⟩ := List.mem_iff_getElem?.mp hx
  rw [withQuirk, quirkFrom_getElem?] at hj
  obtain ⟨y, hy, hxy⟩ := Option.map_eq_some_iff.mp hj
  have hmem : ∀ e0, y = some e0 → e0 ∈ presentEntries rom := fun e0 h0 =>
    List.mem_filterMap.mpr ⟨y, List.mem_of_getElem? hy, h0⟩
  split at hxy
  · obtain ⟨e0, h0, heq⟩ := Option.map_eq_some_iff.mp hxy
    exact ⟨e0, hmem e0 h0, .inr heq.symm⟩
  · exact ⟨e, hmem e hxy, .inl rfl⟩

/-- A check of every present entry that allows the shape `ByteAddress` holds under `QUIRK_EXTRA` too. -/
theorem presentEntries_withQuirk_all {quirk : List Byte} {rom : RomTable} {p : RomEntry → Bool}
    (h : (presentEntries rom).all p = true) (hp : ∀ e, p e = true → p { e with shape := .byteAddress } = true) :
    (presentEntries (withQuirk quirk rom)).all p = true := by
  refine List.all_eq_true.mpr fun e he => ?_
  obtain ⟨e0, h0, rfl | rfl⟩ := mem_presentEntries_withQuirk he
  · exact List.all_eq_true.mp h e h0
  · exact hp e0 (List.all_eq_true.mp h e0 h0)

/-- A value of `QUIRK_EXTRA` that names no attested row keeps every check. -/
theorem romCheck_withQuirk {undef : String} {quirk : List Byte} {rom : RomTable}
    (hq : ∀ p ∈ attestedRows, quirk.contains p.1 = false) {c : RomCheck} (h : c.holds undef rom = true) :
    c.holds undef (withQuirk quirk rom) = true := by
  cases c with
  | size =>
    rw [RomCheck.holds, beq_iff_eq] at h ⊢
    rw [withQuirk, quirkFrom_length, h]
  | attested =>
    refine List.all_eq_true.mpr fun p hp => ?_
    have hslot := List.all_eq_true.mp h p hp
    rw [beq_iff_eq] at hslot ⊢
    rw [romLookup_withQuirk, hslot, funext (RomEntry.underQuirk_of_not_contains (hq p hp))]
    cases p.2 <;> rfl
  | len => exact romCheck_len_holds undef _
  | branch => exact presentEntries_withQuirk_all h fun e _ => by simp
  | target => exact presentEntries_withQuirk_all h fun e _ => by simp [Shape.len]
  | sentinel => exact presentEntries_withQuirk_all h fun e he => he
  | quirk => exact presentEntries_withQuirk_all h fun e _ => by simp

theorem referenceRom_romOk : romOk Config.undefMnemonic referenceRom = true := by decide +kernel

/-- Settles O52: no attested row lies in the domain of `QUIRK_EXTRA`, and every other check allows the shape
`ByteAddress`. -/
theorem quirkTablesAreAdmitted : Obligations.QuirkTablesAreAdmitted := by
  intro quirk hq
  have hattested : ∀ p ∈ attestedRows, quirk.contains p.1 = false := fun p hp =>
    not_contains_of_quirkExtraOk hq ((by decide : ∀ p ∈ attestedRows, quirkDomain.contains p.1 = false) p hp)
  refine ⟨List.all_eq_true.mpr fun c _ => romCheck_withQuirk hattested (romCheck_of_romOk referenceRom_romOk c),
    fun op => ?_⟩
  rw [romLookup_withQuirk]
  cases hc : quirk.contains op with
  | false => simp [funext (RomEntry.underQuirk_of_not_contains hc)]
  | true => simp [funext (RomEntry.underQuirk_of_contains hc)]

/-! ## Admission -/

/-- The configured table is the reference one under an admissible `QUIRK_EXTRA`. -/
theorem configuredRom_romOk : romOk Config.undefMnemonic configuredRom = true :=
  (quirkTablesAreAdmitted Config.quirkExtra rfl).1

/-- Settles O60: a table is refused by the name of a check that it fails, and one that is not refused fails none. -/
theorem unadmittedTablesAreRefused : Obligations.UnadmittedTablesAreRefused := by
  refine ⟨fun undef rom addr win avail => ⟨admittedDecode_ok_iff undef rom addr win avail, fun hno => ?_⟩,
    (admitRom_ok_iff _ _ _).mpr ⟨configuredRom_romOk, rfl⟩⟩
  cases ha : admitRom undef rom with
  | ok t =>
    obtain ⟨hok, -⟩ := (admitRom_ok_iff undef rom t).mp ha
    exact absurd (hno.symm.trans hok) Bool.false_ne_true
  | error c =>
    refine ⟨c, ?_, admitRom_error ha⟩
    simp only [admittedDecode, ha]

/-! ## What an admitted table decodes -/

/-- The attested slots of an admitted table (30_encoding.md R92). -/
theorem romLookup_of_attested {undef : String} {rom : RomTable} (h : romOk undef rom = true) {op : Byte}
    {e : Option RomEntry} (hp : (op, e) ∈ attestedRows) : romLookup rom op = e :=
  beq_iff_eq.mp (List.all_eq_true.mp (romCheck_of_romOk h .attested) (op, e) hp)

/-- What a decode with status OK did, under any table. -/
theorem blockDecode_ok_cases {rom : RomTable} {addr : Word} {win : BitVec 24} {avail : BitVec 2} {r : DecodeRecord}
    (h : blockDecode rom addr win avail = .ok r) :
    ∃ e, romLookup rom (winB0 win) = some e ∧
      r = okRecord (winB0 win) e.mnem e.shape (operandValue e.shape (winB1 win) (winB2 win)) addr := by
  obtain ⟨-, ho⟩ | ⟨-, -, ho⟩ | ⟨_, -, -, -, ho⟩ | ⟨e, hl, -, ho⟩ := blockDecode_cases rom addr win avail
  · cases ho.symm.trans h
  · cases ho.symm.trans h
  · cases ho.symm.trans h
  · cases ho.symm.trans h
    exact ⟨e, hl, rfl⟩

/-- What `WF_TARGET` says of a present slot. -/
theorem shape_len_ne_zero_of_target {undef : String} {rom : RomTable} {op : Byte} {e : RomEntry}
    (ht : RomCheck.target.holds undef rom = true) (hl : romLookup rom op = some e)
    (hm : e.mnem = .jsr ∨ e.mnem = .jmp) : e.shape.len ≠ 0 := by
  have he := List.all_eq_true.mp ht e (mem_presentEntries_of_romLookup hl)
  have hlen : e.shape.len = 1 ∨ e.shape.len = 2 := by
    obtain hm | hm := hm
    · simpa [hm] using he
    · simpa [hm] using he
  omega

/-- What `WF_QUIRK` says of a present slot. -/
theorem shape_eq_byteAddress_of_quirk {undef : String} {rom : RomTable} {op : Byte} {e : RomEntry}
    (hq : RomCheck.quirk.holds undef rom = true) (hl : romLookup rom op = some e)
    (hm : e.mnem = .tsx ∨ e.mnem = .pula ∨ e.mnem = .rts) : e.shape = .byteAddress := by
  have he := List.all_eq_true.mp hq e (mem_presentEntries_of_romLookup hl)
  obtain hm | hm | hm := hm
  all_goals simpa [hm] using he

/-- What `WF_SENTINEL` says of a present slot. -/
theorem text_ne_of_sentinel {undef : String} {rom : RomTable} {op : Byte} {e : RomEntry}
    (hs : RomCheck.sentinel.holds undef rom = true) (hl : romLookup rom op = some e) : e.mnem.text ≠ undef := by
  have he := List.all_eq_true.mp hs e (mem_presentEntries_of_romLookup hl)
  exact bne_iff_ne.mp he

/-- The 16-bit sum of a taken edge is the integer sum, wrapped. -/
theorem takenTarget_zext16 (addr : Word) (b : Byte) :
    takenTarget addr (zext16 b) = BitVec.ofInt 16 ((addr.toNat : Int) + signed8 b + 2) := by
  have h := toNat_takenTarget addr (zext16 b)
  rw [loByte_zext16] at h
  apply BitVec.eq_of_toNat_eq
  rw [BitVec.toNat_ofInt]
  omega

/-- Only `jsr` and `jmp` have a category with one edge. -/
theorem mnem_of_category_call_or_jump {m : Mnemonic} (h : category m = .call ∨ category m = .jump) :
    m = .jsr ∨ m = .jmp := by
  obtain ⟨-, hc⟩ | ⟨hm, -⟩ | ⟨hm, -⟩ | ⟨-, -, -, hc⟩ := category_cases m
  · simp [hc] at h
  · exact .inl hm
  · exact .inr hm
  · simp [hc] at h

/-- Settles O53: the checks speak of every present slot, and a decode with status OK drives the record of one. -/
theorem admittedTablesClassify : Obligations.AdmittedTablesClassify := by
  intro rom hok
  have hnop : romLookup rom 0x01 = some ⟨.nop, .none⟩ := romLookup_of_attested hok (by decide)
  have hbra : romLookup rom 0x20 = some ⟨.bra, .byteAddress⟩ := romLookup_of_attested hok (by decide)
  have hjmp : romLookup rom 0x7E = some ⟨.jmp, .wordAddress⟩ := romLookup_of_attested hok (by decide)
  have hldaa : romLookup rom 0x86 = some ⟨.ldaa, .byteImmediate⟩ := romLookup_of_attested hok (by decide)
  have habsent : romLookup rom 0xFF = none := romLookup_of_attested hok (by decide)
  refine ⟨hnop, hbra, hjmp, hldaa, habsent, fun addr win avail r hr => ?_⟩
  obtain ⟨e, hl, rfl⟩ := blockDecode_ok_cases hr
  have hslot : ∀ {op : Byte} {m S}, romLookup rom op = some ⟨m, S⟩ → winB0 win = op → e.mnem = m ∧ e.shape = S := by
    rintro op m S hop rfl
    cases hl.symm.trans hop
    exact ⟨rfl, rfl⟩
  simp only [okRecord_cat, okRecord_shape, okRecord_e0, okRecord_e1, okRecord_opvalValid, okRecord_opval,
    okRecord_mnem, okRecord_ilen, okRecord_nextAddr, okRecord_opcode, MnemSymbol.known.injEq]
  refine ⟨fun hc => ?_, fun hc => ?_, fun hm => ?_, text_ne_of_sentinel (romCheck_of_romOk hok .sentinel) hl,
    hslot hnop, hslot hbra, hslot hjmp, hslot hldaa, fun hop => ?_⟩
  · have hS := shape_eq_byteAddress_of_cond (romCheck_of_romOk hok .branch) hl hc
    rw [hc, operandValue_of_len_one (congrArg Shape.len hS), firstEdge_cond, takenTarget_zext16]
    exact ⟨hS, rfl, rfl⟩
  · have hlen := shape_len_ne_zero_of_target (romCheck_of_romOk hok .target) hl (mnem_of_category_call_or_jump hc)
    refine ⟨decide_eq_true hlen, ?_⟩
    obtain hc | hc := hc
    · rw [hc]; exact ⟨rfl, rfl⟩
    · rw [hc]; exact ⟨rfl, rfl⟩
  · rw [shape_eq_byteAddress_of_quirk (romCheck_of_romOk hok .quirk) hl hm]
    obtain hm | hm | hm := hm
    all_goals
      rw [hm]
      exact ⟨rfl, rfl, rfl⟩
  · rw [hop, habsent] at hl
    cases hl

end Sys2Proof.Machine
end

section
/-! O54 and O55: the patch of a range and the sweep over it (30_encoding.md R100, 95_test_vectors.md L3). -/

namespace Sys2Proof.Machine

/-! ## The patch -/

/-- A run of one byte over a range inside the space: the byte in the range, and every other address as before. -/
theorem Memory.read_writeBytes_replicate (mem : Memory) {a n : Nat} (x : Nat) (v : Byte) (h : a + n ≤ addressSpace) :
    (mem.writeBytes a (List.replicate n v)).read x = if a ≤ x ∧ x < a + n then some v else mem.read x := by
  induction n generalizing mem a with
  | zero => rw [List.replicate_zero, Memory.writeBytes, if_neg (by omega)]
  | succ n ih =>
    rw [List.replicate_succ, Memory.writeBytes, ih _ (by omega)]
    by_cases hx : x = a
    · subst hx
      rw [Memory.read_write_same mem (by omega), if_neg (by omega), if_pos ⟨Nat.le_refl x, by omega⟩]
    · rw [Memory.read_write_other mem hx]
      exact if_congr (by omega) rfl rfl

/-- What the patch leaves to read. -/
theorem Memory.read_patch (mem : Memory) {a n : Nat} (x : Nat) (h : a + n ≤ addressSpace) :
    (mem.patch a n).read x = if a ≤ x ∧ x < a + n then some nopByteValue else mem.read x :=
  Memory.read_writeBytes_replicate mem x nopByteValue h

/-- Settles O54: the patch is a run of the constant that every decode shows on `nop_byte`. -/
theorem patchWritesNopBytes : Obligations.PatchWritesNopBytes := by
  refine ⟨fun n => ⟨List.length_replicate, fun b hb => List.eq_of_mem_replicate hb⟩, fun s t r hst hr => ?_,
    fun mem a n x h => Memory.read_patch mem x h⟩
  obtain ⟨-, -, -, rfl⟩ | ⟨e, -, -, -, rfl⟩ := step_record_cases hst hr
  · exact undefinedRecord_nopByte _ _
  · exact okRecord_nopByte _ _ _ _ _

/-! ## The sweep -/

/-- The answer of a decode of the no-operation byte. -/
def nopDecode (a : Word) : Outputs := .ok (okRecord nopByteValue .nop .none 0 a)

/-- A window that begins with the no-operation byte decodes to `nop` under a table that has it. -/
theorem decodeAt_of_read_nop {rom : RomTable} (hl : romLookup rom nopByteValue = some ⟨.nop, .none⟩) {mem : Memory}
    {a : Word} (h : mem.read a.toNat = some nopByteValue) : decodeAt rom mem a = nopDecode a := by
  have hw : mem.window a = nopByteValue :: mem.readBytes (a.toNat + 1) 2 := by
    obtain ⟨b, -, hb, heq⟩ | ⟨hno, -⟩ := mem.readBytes_succ_cases a.toNat 2
    · cases h.symm.trans hb
      exact heq
    · exact absurd ⟨a.isLt, by rw [h, Option.isSome_some]⟩ hno
  have hop : winB0 (winOf (mem.window a)) = nopByteValue := by rw [hw, winOf, winB0_packWin, List.getD_cons_zero]
  have havail : 1 + Shape.none.len ≤ (BitVec.ofNat 2 (mem.window a).length).toNat := by
    rw [← State.present_avail State.reset, State.toNat_present_avail, hw, List.length_cons]
    exact Nat.le_add_left 1 _
  rw [decodeAt, blockDecode_of_present (by omega) (hop.symm ▸ hl), hop, if_neg (Nat.not_lt.mpr havail)]
  rfl

/-- One step of the sweep at a no-operation byte, where no stop address is set. -/
theorem sweepStep_of_read_nop {rom : RomTable} (hl : romLookup rom nopByteValue = some ⟨.nop, .none⟩) {h : SweepState}
    (hstop : h.stop = none) (hr : h.mem.read h.a.toNat = some nopByteValue) :
    sweepStep rom none h = ⟨h.mem, h.a + 1, h.trace ++ [nopDecode h.a], none⟩ := by
  unfold sweepStep
  rw [hstop, decodeAt_of_read_nop hl hr]
  rfl

/-- A sweep over a range of no-operation bytes inside the space decodes each of them and stops nowhere. -/
theorem sweep_of_read_nop {rom : RomTable} (hl : romLookup rom nopByteValue = some ⟨.nop, .none⟩) {n : Nat}
    {h : SweepState} (hstop : h.stop = none) (hn : h.a.toNat + n ≤ addressSpace)
    (hr : ∀ k < n, h.mem.read (h.a.toNat + k) = some nopByteValue) :
    (sweep rom none n h).stop = none ∧ (sweep rom none n h).a.toNat = (h.a.toNat + n) % addressSpace ∧
      ∃ l, (sweep rom none n h).trace = h.trace ++ l ∧ l.length = n ∧ ∀ o ∈ l, ∃ a, o = nopDecode a := by
  induction n generalizing h with
  | zero =>
    exact ⟨hstop, (Nat.mod_eq_of_lt h.a.isLt).symm, [], (List.append_nil _).symm, rfl, List.forall_mem_nil _⟩
  | succ n ih =>
    have hnext : (h.a + 1).toNat = (h.a.toNat + 1) % addressSpace := BitVec.toNat_add h.a 1
    rw [sweep, sweepStep_of_read_nop hl hstop (hr 0 (Nat.succ_pos n))]
    simp only [addressSpace] at hn hnext ih ⊢
    obtain ⟨hs, ha, l, htrace, hlen, hnops⟩ := ih (h := ⟨h.mem, h.a + 1, h.trace ++ [nopDecode h.a], none⟩) rfl
      (by rw [hnext]; omega) fun k hk => by
        have hk' : (h.a + 1).toNat + k = h.a.toNat + (k + 1) := by rw [hnext]; omega
        simp only [hk', hr (k + 1) (Nat.succ_lt_succ hk)]
    refine ⟨hs, ?_, nopDecode h.a :: l, ?_, by rw [List.length_cons, hlen], List.forall_mem_cons.mpr ⟨⟨_, rfl⟩, hnops⟩⟩
    · rw [ha, hnext]
      omega
    · rw [htrace, List.append_assoc, List.singleton_append]

/-- Settles O55: the patched range reads as no-operation bytes, and the slot 0x01 of an admitted table holds `nop`. -/
theorem patchedRangeDecodesAsNops : Obligations.PatchedRangeDecodesAsNops := by
  intro rom mem a n hok hn
  have hl : romLookup rom nopByteValue = some ⟨.nop, .none⟩ := romLookup_of_attested hok (by decide)
  have hr : ∀ k < n, (mem.patch a.toNat n).read (a.toNat + k) = some nopByteValue := fun k hk => by
    rw [Memory.read_patch mem _ hn, if_pos (by omega)]
  obtain ⟨hstop, ha, l, htrace, hlen, hnops⟩ :=
    sweep_of_read_nop hl (h := sweepStart (mem.patch a.toNat n) a) rfl hn hr
  refine ⟨_, rfl, hstop, ha, by rw [htrace, ← hlen]; rfl, fun o ho => ?_⟩
  rw [htrace] at ho
  obtain ⟨a', rfl⟩ := hnops o ho
  exact ⟨_, rfl, rfl, rfl, rfl, rfl, rfl⟩

end Sys2Proof.Machine
end
